-- ==== Sys2Proof/Word.lean ====
section
/-! DEFINITION. The widths of the machine: the 48-bit word, the 15-bit address, the 12-bit channel byte and the
51-bit storage cell (rule R2, rule R60, rule R300). -/

namespace Sys2Proof

/-- The 48 data bits of a computer word (rule R8: bit 0 is the rightmost, bit 47 the leftmost). -/
abbrev Word := BitVec 48

/-- A 15-bit storage address or index quantity (rule R64). -/
abbrev Addr := BitVec 15

/-- A 24-bit instruction, half of a program step (rule R90). -/
abbrev HalfWord := BitVec 24

/-- The 12-bit byte a channel and an equipment exchange; also a connect, function or status code (rule R300). -/
abbrev Byte12 := BitVec 12

/-- A storage word with its three parity bits: bits 47-00 data, bit 48 P1, bit 49 P2, bit 50 P3 (rule R62). -/
abbrev Cell := BitVec 51

/-- Which half of a program step: `upper` is bits 47-24, executed first; `lower` is bits 23-00 (rule R26). -/
inductive Half where
  | upper
  | lower
  deriving DecidableEq, Repr

end Sys2Proof
end

