-- ==== Sys2Proof/Config.lean ====
section
/-! DEFINITION. What an installation fixes (the parameters of rule R6, carried as plain data by the state so that
every statement over states covers every configuration) and the free values (the results no rule states). -/

namespace Sys2Proof

/-- The parameters of rule R6. No step of the machine writes them. -/
structure Params where
  /-- `STORAGE_WORDS` = 16384 (addresses with bit 14 set are absent, rule R64); `false` is the standard 32768. -/
  storage16K : Bool
  /-- `FPO_PRESENT`: the floating point option 3410 is installed (rule R3, rule R110). -/
  fpo : Bool
  /-- How many 3406 options are installed: `NCHAN` is one more (rule R3). -/
  extraChannels : Fin 4
  /-- `AUG_V_LO`: lowest bit of the v designator inside y of AUG (rule R280). -/
  augVLo : Fin 13
  /-- `AUG_T_LO`: lowest bit of the t designators inside y of AUG (rule R280). -/
  augTLo : Fin 13
  /-- `BOUNDS_OPERAND` = y[7:0] when true, y[14:7] when false (rule R285). -/
  boundsLow : Bool
  /-- `BOUNDS_IN_INTERRUPT` (rule R462). -/
  boundsInInterrupt : Bool
  /-- `CHAN_INACTIVE_LATCH_UNMASKED` (rule R433). -/
  latchUnmasked : Bool
  /-- `OVF_ON_INA_ADL_SBL` (rule R165). -/
  ovfInaAdlSbl : Bool
  /-- `AUTOLOAD_START_ADDR` (rule R335). -/
  autoloadStart : Addr
  /-- `AUTOLOAD_ENTRY`: begin at the upper instruction of 00000, or as Restart does by a return jump (rule R488). -/
  autoloadEntry : Half
  /-- `WC_ZERO_AT_START`: a control word with count 0 moves 2^15 words when true, none when false (rule R321). -/
  wcZeroFull : Bool
  deriving DecidableEq, Repr

/-- `NCHAN` (rule R300): one channel in the basic system and one for each 3406. -/
def Params.nchan (p : Params) : Nat := p.extraChannels.val + 1

/-- The two designator fields of AUG do not overlap (rule R280, decision D14). -/
def Params.augFieldsApart (p : Params) : Bool :=
  decide (p.augVLo.val + 3 ≤ p.augTLo.val) || decide (p.augTLo.val + 3 ≤ p.augVLo.val)

/-- The basic 3400: the defaults of rule R6 and decision D1. DESIGN CHOICE for the parameters the spec leaves
OPEN without a default (assumption 2): they are read only here, at reset. -/
def Params.basic : Params where
  storage16K := false
  fpo := false
  extraChannels := 0
  augVLo := 12
  augTLo := 0
  boundsLow := false
  boundsInInterrupt := true
  latchUnmasked := false
  ovfInaAdlSbl := false
  autoloadStart := 0
  autoloadEntry := .upper
  wcZeroFull := false

/-- The four operations of the floating point option (rule R170). -/
inductive FpKind where
  | fad
  | fsb
  | fmu
  | fdv
  deriving DecidableEq, Repr

/-- What `fp_op` delivers: the new A and Q and the three fault signals (rule R171). -/
structure FpResult where
  a : Word
  q : Word
  expOver : Bool
  expUnder : Bool
  divZero : Bool
  deriving DecidableEq, Repr, Inhabited

/-- The parameter function `fp_op` of rule R171 with the augment designators t as extra arguments (rule R281). The
source gives no floating point format, so it has no body: nothing can be proved of a value of it (assumption 5). -/
opaque Config.fpOp (k : FpKind) (t : BitVec 3) (a m : Word) : FpResult

/-- The free values: the n-th arbitrary word the machine draws, wherever a rule says "any value" or "unspecified"
(file 93, U9, U11, U14, U16). It has no body: nothing can be proved of a value of it (assumption 4). -/
opaque Config.freeWord (n : Nat) : Word

end Sys2Proof
end

