-- ==== Sys2Proof/Machine/Devices.lean ====
section
/-! DEFINITION. The external equipments of a channel, as plain data: what rules R350 to R415 give each of them to
remember, and what can happen to it from outside (rule R351). Its behaviour is in Machine/Equipment.lean. -/

namespace Sys2Proof.Machine

/-- The direction of a channel's operation, DIR[x] (rule R302). -/
inductive Direction where
  | read
  | write
  deriving DecidableEq, Repr

/-- How an equipment answers a connect or function code (rule R305); `silent` is no response within 100 usec. -/
inductive Answer where
  | reply
  | reject
  | silent
  deriving DecidableEq, Repr

/-- Who has an equipment, or a tape unit, reserved: a channel of this computer, or a user outside it (rule R361,
rule R378, rule R401, rule R409). -/
inductive Holder where
  | free
  | channel (x : Nat)
  | outside
  deriving DecidableEq, Repr

/-- The three interrupt selections of codes 0020 to 0025, which the 3691, 362X, 3644 and 3649 share. -/
inductive InterruptKind where
  | ready
  | endOp
  | abnormal
  deriving DecidableEq, Repr

/-- Which of the three interrupts are selected, and which have sent their Interrupt signal (rule R372, rule R384,
rule R401, rule R409). -/
structure Selections where
  ready : Bool := false
  endOp : Bool := false
  abnormal : Bool := false
  readyUp : Bool := false
  endOpUp : Bool := false
  abnormalUp : Bool := false
  /-- An operation has ended, or an abnormal condition has come, since the interrupt on it was last selected or sent. -/
  ended : Bool := false
  trouble : Bool := false
  deriving DecidableEq, Repr

/-- The console typewriter, 731 Selectric with 3692 control (rule R352 to rule R358). -/
structure Typewriter where
  /-- Typewriter On/Off switch and power: the Ready status. -/
  on : Bool := true
  busy : Bool := false
  upperCase : Bool := false
  endOfLine : Bool := false
  parityError : Bool := false
  /-- Interrupt on Abnormal Operation is selected (code bit 0). -/
  abnormalSelected : Bool := false
  interruptUp : Bool := false
  /-- An output byte came with bad parity and no clear has followed (rule R352). -/
  transmissionError : Bool := false
  /-- What has been typed, newest first (the model's own record of the paper). -/
  typed : List String := []
  deriving DecidableEq, Repr

/-- One printed line: its characters in external BCD, or garbled output, where more than the 120 columns were sent
(rule R362). -/
inductive PrintedLine where
  | text (columns : List (BitVec 6))
  | garbled
  deriving DecidableEq, Repr

/-- The 3655 printer itself, which its two controls share (rule R360 to rule R366). -/
structure PrinterMachine where
  ready : Bool := true
  busy : Bool := false
  /-- The control that has the printer reserved, by its channel. -/
  holder : Holder := .free
  /-- Format channels 1 to 6 selected; bit i is channel i + 1. -/
  formats : BitVec 6 := 0
  suppressAdvance : Bool := false
  /-- The characters of the line being received, in external BCD, newest first. -/
  line : List (BitVec 6) := []
  /-- The lines printed, newest first (the model's own record of the paper). -/
  printed : List PrintedLine := []
  deriving DecidableEq, Repr

/-- One control of a 3655 printer, with the printer (rule R360). DESIGN CHOICE (assumption 18): the interrupt selection
of 0030 and its signal belong to the control, the format channels and the suppression of the advance to the printer. -/
structure Printer where
  machine : PrinterMachine := {}
  interruptSelected : Bool := false
  interruptUp : Bool := false
  /-- A line has been printed since the interrupt was selected (rule R363). -/
  lineSince : Bool := false
  deriving DecidableEq, Repr

/-- The two stations of the 3691 (rule R371). -/
inductive Station where
  | reader
  | punch
  deriving DecidableEq, Repr

/-- The 3691 paper tape reader and punch (rule R370 to rule R374). DESIGN CHOICE (assumption 20): reader and punch have
one set of interrupt selections, and each a mode of its own. -/
structure PaperTape where
  /-- The station the last accepted connect code chose. -/
  station : Station := .reader
  readerReady : Bool := true
  punchReady : Bool := true
  busy : Bool := false
  supplyLow : Bool := false
  /-- A tape motion failure (an abnormal end of the reader). -/
  failure : Bool := false
  readerLast : Bool := false
  readCharacter : Bool := false
  punchCharacter : Bool := false
  selections : Selections := {}
  /-- Frames of the word being read in assembly mode, oldest first. -/
  frames : List (BitVec 6) := []
  /-- A whole word has been read in assembly mode since the Read began. -/
  begun : Bool := false
  /-- The next byte to punch is the first of a word. -/
  firstByte : Bool := true
  /-- The frames punched, newest first (the model's own record of the tape). -/
  punched : List (BitVec 8) := []
  deriving DecidableEq, Repr

/-- The densities of functions 0003, 0004 and 0006 (rule R383). -/
inductive Density where
  | bpi200
  | bpi556
  | bpi800
  deriving DecidableEq, Repr

/-- The tape motions of functions 0010 to 0016 (rule R382), that of a record read or written, and that in the gap
behind it, which keeps the unit busy "after any operation which results in tape motion" (rule R385). -/
inductive Motion where
  | record (m : Direction)
  | gap
  | rewind
  | rewindUnload
  | backspace
  | searchForward
  | searchBackward
  | writeEndOfFile
  | skipBadSpot
  deriving DecidableEq, Repr

/-- One tape unit as the control sees it (rule R378, rule R385). -/
structure TapeUnit where
  /-- Bank (bit 3) and unit (bits 2-0), rule R379. -/
  number : BitVec 4
  holder : Holder := .free
  ready : Bool := true
  writeEnable : Bool := false
  fileMark : Bool := false
  loadPoint : Bool := false
  endOfTape : Bool := false
  /-- The motion under way, and whether it goes towards load point. -/
  motion : Option Motion := none
  backward : Bool := false
  /-- The six-bit frames written on it, newest first (the model's own record of the tape). -/
  written : List (BitVec 6) := []
  deriving DecidableEq, Repr

/-- A 362X (or 342X) read/write control, and the tape units, which the controls share (rule R377 to rule R386). DESIGN
CHOICE (assumption 19): the density, like the format, is the control's, for every unit it connects. -/
structure TapeControl where
  /-- The unit connected. -/
  unit : Option (BitVec 4) := none
  units : List TapeUnit := []
  /-- The record moving at that unit is one of the Read or Write under way. -/
  running : Bool := false
  binary : Bool := true
  density : Density := .bpi200
  reverse : Bool := false
  selections : Selections := {}
  lostData : Bool := false
  longitudinal : Bool := false
  vertical : Bool := false
  reserveReject : Bool := false
  deriving DecidableEq, Repr

/-- One division of a 3682 satellite coupler and what it sees of the other (rule R395 to rule R398). -/
structure Coupler where
  /-- The flag register the two divisions share. -/
  flags : BitVec 8 := 0
  /-- The Interrupt Mask register: bits 7-0 for the flags, bit 8 abnormal condition, bit 9 other division active. -/
  mask : BitVec 10 := 0
  /-- The abnormal and active Interrupt signals sent and not yet cleared. -/
  abnormalUp : Bool := false
  activeUp : Bool := false
  otherRunning : Bool := true
  otherRead : Bool := false
  otherWrite : Bool := false
  otherParity : Bool := false
  /-- This division has returned a Parity Error signal for a connect code, and has not been cleared (rule R395). -/
  paritySignal : Bool := false
  /-- The bytes passed to the other division, newest first (the model's own record). -/
  sent : List Byte12 := []
  deriving DecidableEq, Repr

/-- The 3644 (or 3446) card punch controller (rule R400 to rule R402). DESIGN CHOICE (assumption 21): its two channels
have one set of interrupt selections and one conversion between them, as those of the reader. -/
structure CardPunch where
  ready : Bool := true
  /-- The punch has left the ready condition, which its Ready line shows at the end of a card cycle (rule R402). -/
  lapse : Bool := false
  busy : Bool := false
  /-- The channel whose Write uses the punch: "only one may use it at a time" (rule R400). -/
  user : Option Nat := none
  holder : Holder := .free
  /-- The BCD to Hollerith conversion is negated (function 0001). -/
  negate : Bool := false
  selections : Selections := {}
  feedFail : Bool := false
  compareError : Bool := false
  /-- The columns loaded for the card under way, newest first. -/
  columns : List Byte12 := []
  /-- The cards punched, newest first, each with its newest column first (the model's own record). -/
  cards : List (List Byte12) := []
  deriving DecidableEq, Repr

/-- The 3649 (or 3447) card reader controller (rule R408 to rule R410). -/
structure CardReader where
  busy : Bool := false
  /-- The Auto/Man switch is in the AUTO position, and the End of File switch is ON. -/
  auto : Bool := true
  eofSwitch : Bool := false
  holder : Holder := .free
  negate : Bool := false
  selections : Selections := {}
  /-- The reader memory holds a card. -/
  loaded : Bool := false
  /-- The card has a 7 and 9 punch in column one. -/
  binary : Bool := false
  /-- It is a 51-column card, which is read in binary format only (rule R408). -/
  short : Bool := false
  /-- The columns not yet sent. -/
  columns : List Byte12 := []
  /-- A part of the card has been sent (rule R409). -/
  started : Bool := false
  /-- The channel whose Read uses the reader. -/
  user : Option Nat := none
  /-- The last card was sent to the secondary stacker (function 0004). -/
  gate : Bool := false
  stackerFull : Bool := false
  hopperEmpty : Bool := false
  feedFail : Bool := false
  compareError : Bool := false
  deriving DecidableEq, Repr

/-- Any other 3000-series equipment: the environment says how it answers and what its lines are (rule R305). -/
structure OtherEquipment where
  onConnect : Answer := .reply
  onFunction : Answer := .reply
  status : Byte12 := 0
  interrupt : Bool := false
  reverse : Bool := false
  /-- It answers data bytes. -/
  takes : Bool := true
  /-- The bytes it has been sent, newest first. -/
  received : List Byte12 := []
  deriving DecidableEq, Repr

/-- What stands behind an equipment number. -/
inductive Device where
  | typewriter (d : Typewriter)
  | printer (d : Printer)
  | paperTape (d : PaperTape)
  | tape (d : TapeControl)
  | coupler (d : Coupler)
  | cardPunch (d : CardPunch)
  | cardReader (d : CardReader)
  | other (d : OtherEquipment)
  deriving DecidableEq, Repr

/-- One of at most eight equipments of a channel (rule R351). -/
structure Equipment where
  /-- N, the setting of its Equipment Number switch. -/
  number : BitVec 3
  connected : Bool := false
  /-- Its status is gated to the channel although its last connect was rejected (rule R351). -/
  gated : Bool := false
  /-- Controls on different channels with the same number here are sides of one physical machine: the two controls of a
  printer, the controls of a set of tape units, the two channels of a card punch or reader (rule R360, rule R377,
  rule R400, rule R409). -/
  machine : Option Nat := none
  device : Device
  deriving DecidableEq, Repr

/-- How an equipment stands to its channel: the channel's number, whether it is connected, and the operation it takes
part in. -/
structure Link where
  channel : Nat
  connected : Bool := false
  op : Option Direction := none
  deriving DecidableEq, Repr

/-- The clears an equipment meets: a Clear Channel, an external master clear, and the master clear of power coming on
(rule R316, rule R364, rule R381, rule R397, rule R481). -/
inductive ClearScope where
  | channel
  | external
  | power
  deriving DecidableEq, Repr

/-- What an equipment sends the channel of its own accord during a Read (rule R305). -/
inductive Signal where
  | data (b : Byte12)
  | endOfRecord
  deriving DecidableEq, Repr

/-- What can happen to an equipment from outside the computer (rule R351: physical and nondeterministic). A happening
that an equipment does not have leaves it as it is. -/
inductive Happening where
  /-- Power comes on: the equipment's master clear (rule R364, rule R381, rule R397). -/
  | powerOn
  /-- Power, On/Off, Ready or Auto switch of the equipment (a paper tape station, a tape unit: the one named). -/
  | ready (b : Bool)
  | stationReady (t : Station) (b : Bool)
  /-- Its mechanism starts or stops moving. -/
  | busy (b : Bool)
  /-- A key of the typewriter. -/
  | key (code : BitVec 6)
  /-- The typewriter reached its right margin. -/
  | endOfLine
  /-- The typewriter control's logic failed on output. -/
  | typeParity
  /-- A manual interrupt at the typewriter. -/
  | manual
  /-- A user outside the computer reserves or releases the equipment, or a tape unit. -/
  | otherReserve (b : Bool)
  | unitReserve (u : BitVec 4) (b : Bool)
  /-- An interrupt whose selected condition holds is sent. -/
  | respond (k : InterruptKind)
  /-- A frame of paper tape passes the reader. -/
  | frame (f : BitVec 8)
  | supplyLow (b : Bool)
  /-- A motion or feed failure appears or is mended. -/
  | failure (b : Bool)
  /-- A tape unit is placed, or changed, as given; its unit number is set anew; it becomes ready or not. -/
  | mount (u : TapeUnit)
  | renumber (old new : BitVec 4)
  | unitReady (u : BitVec 4) (b : Bool)
  /-- The motion of a tape unit ends with these lines; that in a gap ends with the lines as they are. -/
  | motionDone (u : BitVec 4) (fileMark loadPoint endOfTape : Bool)
  /-- Two frames are read from magnetic tape. -/
  | frames (hi lo : BitVec 6)
  | lostData
  /-- Parity errors found in a record, before its end (a card reader: its Compare Error line). -/
  | tapeParity (longitudinal vertical : Bool)
  /-- The end of a record, or the other side's dropped Write. -/
  | endOfRecord
  /-- The other division of a coupler sets and clears flags, or changes its lines. -/
  | flags (set clear : BitVec 8)
  | otherDivision (running read write parity : Bool)
  /-- A byte from a coupler's other division or from another equipment. -/
  | data (b : Byte12)
  /-- The card under way is done; the hole counts agree or not. -/
  | cardDone (compareError : Bool)
  /-- A card is loaded in the reader memory: 51 columns are a 51-column card, any other list is filled up or cut to
  80. -/
  | cardLoaded (columns : List Byte12)
  /-- The reader answers the channel's next Data signal. -/
  | nextByte
  /-- The card reader's End of File switch, and its stacker and hopper conditions. -/
  | cardLines (endOfFileSwitch stackerFull hopperEmpty : Bool)
  /-- The answers and lines of another equipment from now on. -/
  | behave (onConnect onFunction : Answer) (takes : Bool)
  | lines (status : Byte12) (interrupt reverse : Bool)
  deriving DecidableEq, Repr

end Sys2Proof.Machine
end

