-- ==== Sys2Proof/Machine/Equipment.lean ====
section
/-! DEFINITION. The behaviour of the external equipments: how each answers a connect and a function code, its status
and interrupt lines, its data bytes, its clear, and what happens to it from outside (rule R350 to rule R415). -/

namespace Sys2Proof.Machine

/-- One line of a 12-bit status code. -/
def statusLine (i : Nat) (b : Bool) : Byte12 := if b then 1#12 <<< i else 0

/-- The upper and the lower six-bit frame of a 12-bit byte; the upper one comes first (rule R73). -/
def upperFrame (b : Byte12) : BitVec 6 := b.extractLsb' 6 6
def lowerFrame (b : Byte12) : BitVec 6 := b.extractLsb' 0 6

/-! ## Code tables -/

/-- Table 7-3 (rule R357): code, lower-case and upper-case character. A letter in upper case types a space. The lower
case of both 52 and 14 is a comma, as the table is extracted, though one is probably an apostrophe (file 91, N29):
DESIGN CHOICE (assumption 18). -/
def typewriterTable : List (Nat × String × String) :=
  [(0o12, "A", " "), (0o01, "B", " "), (0o11, "C", " "), (0o55, "D", " "), (0o51, "E", " "), (0o30, "F", " ")] ++
  [(0o74, "G", " "), (0o45, "H", " "), (0o16, "I", " "), (0o70, "J", " "), (0o15, "K", " "), (0o41, "L", " ")] ++
  [(0o72, "M", " "), (0o31, "N", " "), (0o42, "O", " "), (0o54, "P", " "), (0o10, "Q", " "), (0o56, "R", " ")] ++
  [(0o46, "S", " "), (0o75, "T", " "), (0o35, "U", " "), (0o36, "V", " "), (0o02, "W", " "), (0o71, "X", " ")] ++
  [(0o40, "Y", " "), (0o73, "Z", " "), (0o43, "0", ")"), (0o77, "1", "±"), (0o37, "2", "@"), (0o33, "3", "#")] ++
  [(0o47, "4", "$"), (0o57, "5", "%"), (0o13, "6", "¢"), (0o53, "7", "&"), (0o17, "8", "*"), (0o07, "9", "(")] ++
  [(0o76, "!", "°"), (0o32, ".", "."), (0o52, ",", "''"), (0o50, ";", ":"), (0o14, ",", ","), (0o44, "/", "?")] ++
  [(0o34, "=", "+"), (0o04, "-", "_"), (0o60, " ", " "), (0o61, "backspace", "backspace"), (0o62, "tab", "tab")] ++
  [(0o63, "carriage return", "carriage return")]

/-- What the typewriter types for a code: nothing for 00, 65, 67, the shifts and the codes not in Table 7-3. -/
def typewriterGlyph (upper : Bool) (code : BitVec 6) : Option String :=
  match typewriterTable.find? (fun r => r.1 == code.toNat) with
  | some (_, l, u) => some (if upper then u else l)
  | none => none

/-- Table 8-2 (rule R365): the printer's characters in the order of their external BCD codes. The glyphs of 35, 52 and
76 are uncertain in the source; the model prints ↖, V and ┌ there: DESIGN CHOICE (assumption 18). -/
def printerTable : List String :=
  [":", "1", "2", "3", "4", "5", "6", "7", "8", "9", "0", "=", "≠", "≤", "%", "["] ++
  [" ", "/", "S", "T", "U", "V", "W", "X", "Y", "Z", "]", ",", "(", "↖", "≡", "^"] ++
  ["-", "J", "K", "L", "M", "N", "O", "P", "Q", "R", "V", "$", "*", "↑", "↓", ">"] ++
  ["+", "A", "B", "C", "D", "E", "F", "G", "H", "I", "<", ".", ")", "≥", "┌", ";"]

/-- The character the printer prints for an external BCD code. -/
def printerGlyph (code : BitVec 6) : String := printerTable.getD code.toNat ""

/-- Internal and external BCD exchange: "If the 5th bit is a '1', the 6th bit is complemented" (rule R386). -/
def bcdExchange (f : BitVec 6) : BitVec 6 := if f.getLsbD 4 then f ^^^ 0o40#6 else f

/-- A frame written on tape in the current format, and back (rule R386): in BCD 00 is written as 12 octal. -/
def toTape (binary : Bool) (f : BitVec 6) : BitVec 6 :=
  if binary then f else if f = 0 then 0o12#6 else bcdExchange f
def fromTape (binary : Bool) (f : BitVec 6) : BitVec 6 :=
  if binary then f else if f = 0o12#6 then 0 else bcdExchange f

/-- A punched row of a card column: row 12 is bit 11, row 11 bit 10, row r bit 9 - r (rule R400, of the punch). That a
column read has the same layout is a DESIGN CHOICE (assumption 21): rule R408 does not say. -/
def cardRow (r : Nat) : Byte12 := if r = 12 then 1#12 <<< 11 else if r = 11 then 1#12 <<< 10 else 1#12 <<< (9 - r)

/-- The rows of the digit part of an internal BCD code above nine: 8 and d - 8. -/
def cardDigit (d : Nat) : Byte12 := if d ≤ 9 then cardRow d else cardRow 8 ||| cardRow (d - 8)

/-- Tables 13-1 and 14-2 (rule R415): the rows punched for an internal BCD code. -/
def hollerith (c : BitVec 6) : Byte12 :=
  let d := (c.extractLsb' 0 4).toNat
  let plain : Byte12 := if d = 0 then 0 else if d = 10 then cardRow 0 else cardDigit d
  match (c.extractLsb' 4 2).toNat with
  | 0 => cardDigit d
  | 1 => cardRow 12 ||| plain
  | 2 => cardRow 11 ||| plain
  | _ => if d = 0 then 0 else cardRow 0 ||| cardDigit d

/-- The internal BCD code of a card column, where the table has one. -/
def fromHollerith (col : Byte12) : Option (BitVec 6) :=
  ((List.range 64).map (BitVec.ofNat 6)).find? fun c => hollerith c == col

/-! ## Reservation: "Only one control may communicate with the printer at any given time" (rule R360), and the like of
tape units (rule R378), the card punch (rule R400, rule R401) and the card reader (rule R409) -/

/-- Reserved by channel x, and by someone else. -/
def Holder.mine (h : Holder) (x : Nat) : Bool := decide (h = .channel x)
def Holder.others (h : Holder) (x : Nat) : Bool :=
  match h with
  | .free => false
  | .channel y => decide (y ≠ x)
  | .outside => true

/-- Channel x gives its reservation up. -/
def Holder.releasedBy (h : Holder) (x : Nat) : Holder := if h = .channel x then .free else h

/-- Who has a card punch or reader: the channel whose Write or Read uses it, else who has it reserved (rule R400,
rule R401, rule R409). That a Write or Read begun without a reservation keeps the other channel out until it ends, like
a reservation, is a DESIGN CHOICE (assumption 21): rule R400 only says that one channel uses it at a time. -/
def Holder.orUser (h : Holder) (user : Option Nat) : Holder :=
  match user with
  | some y => .channel y
  | none => h

/-- A user outside the computer takes what is free, or gives up what it has. -/
def Holder.outsider (h : Holder) (takes : Bool) : Holder :=
  match h with
  | .free => if takes then .outside else .free
  | .outside => if takes then .outside else .free
  | .channel y => .channel y

/-! ## The three selectable interrupts -/

/-- Codes 0020 to 0025: an even code selects, an odd one releases; each clears that interrupt's signal, and what has
happened until then is forgotten. -/
def selectionCode (code : Nat) (s : Selections) : Option Selections :=
  match code with
  | 0o20 => some { s with ready := true, readyUp := false }
  | 0o21 => some { s with ready := false, readyUp := false }
  | 0o22 => some { s with endOp := true, endOpUp := false, ended := false }
  | 0o23 => some { s with endOp := false, endOpUp := false, ended := false }
  | 0o24 => some { s with abnormal := true, abnormalUp := false, trouble := false }
  | 0o25 => some { s with abnormal := false, abnormalUp := false, trouble := false }
  | _ => none

/-- The interrupt of kind k is sent if it is selected and its condition holds. -/
def Selections.raise (s : Selections) (k : InterruptKind) (condition : Bool) : Selections :=
  match k with
  | .ready => if s.ready && condition then { s with readyUp := true } else s
  | .endOp => if s.endOp && condition then { s with endOpUp := true, ended := false } else s
  | .abnormal => if s.abnormal && condition then { s with abnormalUp := true, trouble := false } else s

/-- An operation ends, and an abnormal condition comes, if c. -/
def Selections.endedIf (s : Selections) (c : Bool) : Selections := { s with ended := s.ended || c }
def Selections.troubledIf (s : Selections) (c : Bool) : Selections := { s with trouble := s.trouble || c }

def Selections.up (s : Selections) : Bool := s.readyUp || s.endOpUp || s.abnormalUp

/-- "Any new interrupt instruction clears the existing Interrupt signal" of a 362X (rule R384). -/
def Selections.quiet (s : Selections) : Selections := { s with readyUp := false, endOpUp := false, abnormalUp := false }

/-- Status bits 7, 8 and 9 of the 3691, 3644 and 3649. -/
def Selections.status (s : Selections) : Byte12 :=
  statusLine 7 s.readyUp ||| statusLine 8 s.endOpUp ||| statusLine 9 s.abnormalUp

/-! ## The console typewriter -/

/-- Rule R353: bit 0 sets, bit 1 clears the selection (both: not stated, a free bit); bit 2 clears the signal. -/
def typewriterFunction (free : Word) (c : Byte12) (d : Typewriter) : Typewriter :=
  let selected := if c.getLsbD 0 && c.getLsbD 1 then free.getLsbD 0
    else if c.getLsbD 0 then true else if c.getLsbD 1 then false else d.abnormalSelected
  { d with
    abnormalSelected := selected
    interruptUp := d.interruptUp && !c.getLsbD 2
    parityError := d.parityError && !c.getLsbD 2 }

/-- One six-bit code typed or shifted (rule R355, rule R357); a carriage return drops End of Line and Type Parity
Error (rule R354). -/
def typeCode (code : BitVec 6) (d : Typewriter) : Typewriter :=
  let typed := match typewriterGlyph d.upperCase code with
    | some g => g :: d.typed
    | none => d.typed
  match code.toNat with
  | 0o64 => { d with upperCase := true }
  | 0o66 => { d with upperCase := false }
  | 0o63 => { d with endOfLine := false, parityError := false, typed := typed }
  | _ => { d with typed := typed }

/-- Rule R354. -/
def typewriterStatus (d : Typewriter) : Byte12 :=
  statusLine 0 d.on ||| statusLine 1 d.busy ||| statusLine 2 d.upperCase ||| statusLine 5 d.endOfLine |||
    statusLine 10 d.parityError

/-- Rule R355: a byte is typed, its upper frame first. One with bad parity leaves a transmission parity error, which
keeps the connection until a clear (rule R352); it is typed as it came, DESIGN CHOICE (assumption 11). -/
def typewriterTake (bad : Bool) (b : Byte12) (d : Typewriter) : Typewriter :=
  { typeCode (lowerFrame b) (typeCode (upperFrame b) d) with transmissionError := d.transmissionError || bad }

/-- The shift to lower case at the beginning and end of a Write (rule R355), if it is on (rule R475). -/
def typewriterShift (d : Typewriter) : Typewriter := { d with upperCase := d.upperCase && !d.on }

/-- Rule R354, rule R356: what happens at the typewriter, which must be on "for any typewriter operation" (rule R475). -/
def typewriterHappen (l : Link) (h : Happening) (d : Typewriter) : Typewriter × List Signal :=
  match h with
  | .ready b => ({ d with on := b, busy := d.busy && b }, [])
  | .busy b => ({ d with busy := d.on && b }, [])
  | .key code =>
    if d.on then
      (typeCode code d, if l.op = some .read then [.data 0, .data 0, .data 0, .data (0#6 ++ code)] else [])
    else (d, [])
  | .endOfLine =>
    if d.on then ({ d with endOfLine := true, interruptUp := d.interruptUp || d.abnormalSelected }, []) else (d, [])
  | .typeParity =>
    if d.on ∧ l.op = some .write then
      ({ d with parityError := true, interruptUp := d.interruptUp || d.abnormalSelected }, [])
    else (d, [])
  | .manual => if d.on then ({ d with interruptUp := true }, []) else (d, [])
  | _ => (d, [])

/-- Rule R358; a Write that a clear ends leaves lower case like any other end of a Write (rule R355). -/
def typewriterClear (l : Link) (d : Typewriter) : Typewriter :=
  { (if l.op = some .write then typewriterShift d else d) with
    abnormalSelected := false
    interruptUp := false
    parityError := false
    transmissionError := false }

/-! ## The 3655 printer -/

/-- Rule R361: not Ready, no signals; reserved by the other control, a Reject. -/
def printerConnect (x : Nat) (d : Printer) : Answer × Printer :=
  let m := d.machine
  if m.ready && !m.busy then
    if m.holder.others x then (.reject, d) else (.reply, { d with machine := { m with holder := .channel x } })
  else (.silent, d)

/-- Rule R363. -/
def printerFunction (x : Nat) (c : Byte12) (d : Printer) : Answer × Printer :=
  let m := d.machine
  let done (m : PrinterMachine) : Answer × Printer := (.reply, { d with machine := m })
  if !m.holder.mine x then (.reject, d)
  else if c.getLsbD 5 then done { m with holder := .free }
  else if !m.ready || m.busy then (.reject, d)
  else match c.toNat with
    | 0o0030 => (.reply, { d with interruptSelected := true, lineSince := false })
    | 0o0031 => (.reply, { d with interruptSelected := false, interruptUp := false })
    | 0o0001 | 0o0002 | 0o0003 | 0o0004 => done { m with busy := true }
    | 0o0006 => done { m with suppressAdvance := true }
    | 0o0010 => done { m with formats := 0 }
    | 0o0011 => done { m with formats := m.formats ||| 0o01 }
    | 0o0012 => done { m with formats := m.formats ||| 0o02 }
    | 0o0013 => done { m with formats := m.formats ||| 0o04 }
    | 0o0014 => done { m with formats := m.formats ||| 0o10 }
    | 0o0015 => done { m with formats := m.formats ||| 0o20 }
    | 0o0016 => done { m with formats := m.formats ||| 0o40 }
    | _ => (.reject, d)

/-- Rule R364. DESIGN CHOICE (assumption 18): bit 0 asks for no connection or reservation by a control ("selected by a
control"), only for a printer ready and not busy. -/
def printerStatus (x : Nat) (d : Printer) : Byte12 :=
  statusLine 0 (d.machine.ready && !d.machine.busy) ||| statusLine 11 (d.machine.holder.others x)

/-- It can take a byte, or print: reserved by this control, ready and not busy (rule R361, rule R364). -/
def printerFree (x : Nat) (d : Printer) : Bool := d.machine.holder.mine x && d.machine.ready && !d.machine.busy

/-- A Write begins at column 1 of an empty printer memory (rule R362). -/
def printerBegin (x : Nat) (d : Printer) : Printer :=
  if printerFree x d then { d with machine := { d.machine with line := [] } } else d

/-- Rule R362: two characters of a byte, converted to external BCD, enter the printer memory. That the conversion is
that of the 362X, the only one the source gives, is a DESIGN CHOICE (assumption 18): rule R365 says that it is not
stated (file 91, N29). -/
def printerTake (b : Byte12) (d : Printer) : Printer :=
  { d with machine :=
      { d.machine with line := bcdExchange (lowerFrame b) :: bcdExchange (upperFrame b) :: d.machine.line } }

/-- What is printed from the printer memory: more than 120 characters overlap it (rule R362). -/
def printedLine (line : List (BitVec 6)) : PrintedLine := if line.length ≤ 120 then .text line.reverse else .garbled

/-- Rule R362, rule R363: "When the Write signal drops, the printer prints one line", if this control has it; 0006 is
self-clearing. -/
def printerEnd (x : Nat) (d : Printer) : Printer :=
  if printerFree x d then
    { d with
      lineSince := true
      machine :=
        { d.machine with
          busy := true, suppressAdvance := false, line := []
          printed := printedLine d.machine.line :: d.machine.printed } }
  else d

/-- The text of a printed line (rule R365): nothing can be said of garbled output. -/
def printedText : PrintedLine → Option (List String)
  | .text line => some (line.map printerGlyph)
  | .garbled => none

/-- Rule R361, rule R363, rule R364. -/
def printerHappen (h : Happening) (d : Printer) : Printer :=
  let m := d.machine
  match h with
  | .ready b => { d with machine := { m with ready := b } }
  | .busy b => { d with machine := { m with busy := b } }
  | .otherReserve b => { d with machine := { m with holder := m.holder.outsider b } }
  | .respond _ =>
    { d with interruptUp := d.interruptUp || (d.interruptSelected && d.lineSince && m.ready && !m.busy) }
  | _ => d

/-- Rule R364: a master clear of one control, which leaves the printer alone while someone else has it reserved; or of
power coming on. DESIGN CHOICE (assumption 18): power coming on leaves the interrupt of the other control. -/
def printerClear (l : Link) (k : ClearScope) (d : Printer) : Printer :=
  { d with
    interruptSelected := false
    interruptUp := false
    lineSince := false
    machine := if d.machine.holder.others l.channel && decide (k ≠ .power) then d.machine
      else { d.machine with holder := .free, formats := 0, suppressAdvance := false, line := [] } }

/-! ## The 3691 paper tape reader and punch -/

/-- Rule R371. -/
def paperTapeConnect (c : Byte12) (d : PaperTape) : Answer × PaperTape :=
  match (c.extractLsb' 0 3).toNat with
  | 0 => (.reply, { d with station := .reader })
  | 1 => (.reply, { d with station := .punch })
  | _ => (.silent, d)

/-- Rule R372. -/
def paperTapeFunction (c : Byte12) (d : PaperTape) : Answer × PaperTape :=
  match c.toNat with
  | 0o0001 => (.reply, match d.station with
      | .reader => { d with readCharacter := false }
      | .punch => { d with punchCharacter := false })
  | 0o0002 => (.reply, match d.station with
      | .reader => { d with readCharacter := true }
      | .punch => { d with punchCharacter := true })
  | 0o0005 => (.reply, { d with readCharacter := false, punchCharacter := false, selections := {} })
  | code => match selectionCode code d.selections with
    | some s => (.reply, { d with selections := s })
    | none => (.reject, d)

def stationReady (d : PaperTape) : Bool :=
  match d.station with
  | .reader => d.readerReady
  | .punch => d.punchReady

/-- "Either a punch or read operation is in process" (rule R374): a cycle of a station, or the channel's operation. -/
def paperTapeBusy (l : Link) (d : PaperTape) : Bool :=
  d.busy || match d.station with
    | .reader => decide (l.op = some .read)
    | .punch => decide (l.op = some .write)

/-- Rule R374. Punch Tape Supply Low is shown whichever station is connected: DESIGN CHOICE (assumption 20), rule R371
does not say whether it pertains to the reader. -/
def paperTapeStatus (l : Link) (d : PaperTape) : Byte12 :=
  statusLine 0 (stationReady d) ||| statusLine 1 (paperTapeBusy l d) ||| statusLine 2 d.supplyLow |||
    statusLine 3 d.readerLast ||| d.selections.status

/-- Rule R373: a byte is punched; `mark` is the Word Mark, the last byte of a word (rule R392). -/
def paperTapeTake (mark : Bool) (b : Byte12) (d : PaperTape) : PaperTape :=
  if d.punchCharacter then
    if mark then { d with firstByte := true, readerLast := false, punched := b.extractLsb' 0 8 :: d.punched }
    else { d with firstByte := false }
  else
    let hole : BitVec 2 := if d.firstByte then 1 else 0
    { d with
      firstByte := mark
      readerLast := false
      punched := (0#2 ++ lowerFrame b) :: (hole ++ upperFrame b) :: d.punched }

/-- Rule R373: a frame passes the reader during a Read. -/
def readFrame (f : BitVec 8) (d : PaperTape) : PaperTape × List Signal :=
  let low : BitVec 6 := f.extractLsb' 0 6
  if d.readCharacter then ({ d with readerLast := true }, [.data 0, .data 0, .data 0, .data (0#4 ++ f)])
  else if d.frames.isEmpty then
    if f.getLsbD 6 then ({ d with frames := [low], readerLast := true }, [])
    else if d.begun then ({ d with begun := false }, [.endOfRecord])
    else (d, [])
  else
    let sent : List Signal := if d.frames.length % 2 = 1 then [.data (d.frames.getLastD 0 ++ low)] else []
    if d.frames.length = 7 then ({ d with frames := [], begun := true }, sent)
    else ({ d with frames := d.frames ++ [low] }, sent)

/-- A Read or Write begins: no frame is gathered and the next byte is the first of a word (rule R373). -/
def paperTapeBegin (d : PaperTape) : PaperTape := { d with frames := [], begun := false, firstByte := true }

/-- Rule R372: the condition of an interrupt of the 3691. DESIGN CHOICE (assumption 20): a reader tape motion failure is
one for as long as it lasts, also where it is older than the selection or the interrupt on it has been sent. -/
def paperTapeCondition (l : Link) (d : PaperTape) : InterruptKind → Bool
  | .ready => l.connected && stationReady d && !paperTapeBusy l d
  | .endOp => !stationReady d || (d.selections.ended && match d.station with
      | .reader => true
      | .punch => !paperTapeBusy l d)
  | .abnormal => d.selections.trouble || (decide (d.station = .reader) && d.failure)

/-- A station becomes ready or not: "A reader [punch] not ready condition develops" (rule R372). -/
def stationSwitch (t : Station) (b : Bool) (d : PaperTape) : PaperTape :=
  let e := match t with
    | .reader => { d with readerReady := b }
    | .punch => { d with punchReady := b }
  { e with selections := d.selections.troubledIf (stationReady d && !stationReady e) }

def paperTapeHappen (l : Link) (h : Happening) (d : PaperTape) : PaperTape × List Signal :=
  match h with
  | .stationReady t b => (stationSwitch t b d, [])
  | .busy b =>
    let low := d.busy && !b && decide (d.station = .punch) && d.supplyLow
    ({ d with busy := b, selections := d.selections.troubledIf low }, [])
  | .supplyLow b => ({ d with supplyLow := b }, [])
  | .failure b => ({ d with failure := b }, [])
  | .frame f => if l.op = some .read ∧ d.station = .reader ∧ d.readerReady then readFrame f d else (d, [])
  | .respond k => ({ d with selections := d.selections.raise k (paperTapeCondition l d k) }, [])
  | _ => (d, [])

/-- Rule R351. A clear also puts both stations in Assembly mode, as function 0005 does: DESIGN CHOICE (assumption 20),
no rule says whether it does. -/
def paperTapeClear (d : PaperTape) : PaperTape :=
  { paperTapeBegin d with readCharacter := false, punchCharacter := false, selections := {} }

/-! ## The 362X and 342X magnetic tape controls -/

/-- The unit of a number in a list of units. -/
def findUnit (units : List TapeUnit) (n : BitVec 4) : Option TapeUnit := units.find? fun u => u.number == n
def TapeControl.find (d : TapeControl) (n : BitVec 4) : Option TapeUnit := findUnit d.units n

/-- The unit connected. -/
def TapeControl.connectedUnit (d : TapeControl) : Option TapeUnit := d.unit.bind d.find

/-- The unit n as f makes it, and every unit as f makes it. -/
def TapeControl.change (d : TapeControl) (n : BitVec 4) (f : TapeUnit → TapeUnit) : TapeControl :=
  { d with units := d.units.map fun u => if u.number = n then f u else u }
def TapeControl.changeAll (d : TapeControl) (f : TapeUnit → TapeUnit) : TapeControl := { d with units := d.units.map f }

/-- Rule R378, rule R379: bits 5-3 the bank (0 or 1), bits 2-0 the unit. A unit reserved by another channel rejects;
no such unit, no response. A new connection drops the old one and keeps its reservation. -/
def tapeConnect (x : Nat) (c : Byte12) (d : TapeControl) : Answer × TapeControl :=
  let n : BitVec 4 := c.extractLsb' 0 4
  let d := { d with lostData := false, reserveReject := false }
  if c.extractLsb' 4 2 ≠ 0#2 then (.silent, { d with unit := none })
  else match d.find n with
    | none => (.silent, { d with unit := none })
    | some u =>
      if u.holder.others x then (.reject, { d with reserveReject := true })
      else (.reply, { (d.change n fun u => { u with holder := .channel x }) with unit := some n })

/-- Rule R382: the motion codes. -/
def motionCode (code : Nat) : Option Motion :=
  match code with
  | 0o0010 => some .rewind
  | 0o0011 => some .rewindUnload
  | 0o0012 => some .backspace
  | 0o0013 => some .searchForward
  | 0o0014 => some .searchBackward
  | 0o0015 => some .writeEndOfFile
  | 0o0016 => some .skipBadSpot
  | _ => none

/-- The motion goes towards load point: with Reverse Read set a Read does and a Backspace does not (rule R380,
rule R382). -/
def movesBack (reverse : Bool) (m : Motion) : Bool :=
  match m with
  | .rewind | .rewindUnload | .searchBackward => true
  | .record .read => reverse
  | .backspace => !reverse
  | .record .write | .gap | .searchForward | .writeEndOfFile | .skipBadSpot => false

/-- A motion begins (rule R382, rule R385): a Rewind at load point has no effect; a Backspace, a search or a new record
drops File Mark; motion drops Load Point. -/
def startMotion (reverse : Bool) (m : Motion) (u : TapeUnit) : TapeUnit :=
  if m = .rewind ∧ u.loadPoint then u
  else
    let fileMark := match m with
      | .backspace | .searchForward | .searchBackward | .record _ => false
      | .gap | .rewind | .rewindUnload | .writeEndOfFile | .skipBadSpot => u.fileMark
    { u with motion := some m, backward := movesBack reverse m, loadPoint := false, fileMark := fileMark }

/-- Rule R381 to rule R384: a function code for the connected unit u. DESIGN CHOICE (assumption 19): 0006 and 0041, for
the "607 only", are taken for every unit, since a unit has no type here; Clear (0005), of which rule R381 names the
connection, the reservations and the binary format, keeps the density (the control's, for all its units), Reverse Read
and the selections; format and interrupt codes do not ask whether the unit is ready. -/
def tapeUnitFunction (x : Nat) (c : Byte12) (u : TapeUnit) (d : TapeControl) : Answer × TapeControl :=
  let code := c.toNat
  match selectionCode code d.selections.quiet with
  | some s => (.reply, { d with selections := s })
  | none =>
    if u.motion.isSome then (.reject, d)
    else match motionCode code with
      | some m => if u.ready then (.reply, d.change u.number (startMotion d.reverse m)) else (.reject, d)
      | none => match code with
        | 0o0000 =>
          (.reply, { (d.change u.number fun v => { v with holder := v.holder.releasedBy x }) with unit := none })
        | 0o0001 => (.reply, { d with binary := true })
        | 0o0002 => (.reply, { d with binary := false })
        | 0o0003 => (.reply, { d with density := .bpi556 })
        | 0o0004 => (.reply, { d with density := .bpi200 })
        | 0o0006 => (.reply, { d with density := .bpi800 })
        | 0o0005 => (.reply,
            { (d.changeAll fun v => { v with holder := v.holder.releasedBy x }) with unit := none, binary := true })
        | 0o0040 => (.reply, { d with reverse := false })
        | 0o0041 => (.reply, { d with reverse := true })
        | _ => (.reject, d)

/-- A function code; with no unit connected nothing answers (rule R311, rule R381). -/
def tapeFunction (x : Nat) (c : Byte12) (d : TapeControl) : Answer × TapeControl :=
  let d := { d with lostData := false }
  match d.connectedUnit with
  | none => (.silent, d)
  | some u => tapeUnitFunction x c u d

/-- Rule R385. -/
def tapeStatus (l : Link) (d : TapeControl) : Byte12 :=
  let lines := match d.connectedUnit with
    | none => 0
    | some u =>
      let stuck := l.op.isSome && (d.lostData || d.selections.abnormalUp)
      statusLine 0 u.ready ||| statusLine 1 (u.ready && (u.motion.isSome || l.op.isSome) && !stuck) |||
        statusLine 2 u.writeEnable ||| statusLine 3 u.fileMark ||| statusLine 4 u.loadPoint ||| statusLine 5 u.endOfTape
  lines ||| statusLine 6 (d.density = .bpi556) ||| statusLine 7 (d.density = .bpi800) ||| statusLine 8 d.lostData |||
    statusLine 9 d.longitudinal ||| statusLine 10 d.vertical ||| statusLine 11 d.reserveReject

/-- The unit can be moved by a Read or Write: it stands, moves in a gap, or moves for that operation already; the record
of an operation that has ended comes to its end first. -/
def tapeFree (running : Bool) (u : TapeUnit) : Bool :=
  match u.motion with
  | none | some .gap => true
  | some (.record _) => running
  | some .rewind | some .rewindUnload | some .backspace | some .searchForward | some .searchBackward |
    some .writeEndOfFile | some .skipBadSpot => false

/-- The tape of the connected unit can move for a Read, or a Write: the unit is ready and free, nothing stands in the
way of a new record (rule R384, rule R385), a Write finds Write Enable ("the 3606 hangs up"), and a Reverse Read is not
at load point ("there will be no tape motion", rule R380). -/
def tapeCanMove (m : Direction) (d : TapeControl) : Bool :=
  match d.connectedUnit with
  | none => false
  | some u =>
    u.ready && tapeFree d.running u && !d.lostData && !d.selections.abnormalUp &&
      match m with
      | .write => u.writeEnable
      | .read => !(d.reverse && u.loadPoint)

/-- A record read or written is moving at the unit. -/
def TapeUnit.inRecord (u : TapeUnit) : Bool := u.motion = some (.record .read) ∨ u.motion = some (.record .write)

/-- A record of the operation begins, with the Read or Write or as soon as the tape can move: the lines of the last
record drop, Vertical Parity Error only "when reading begins on a new record" (rule R385). -/
def tapeRun (m : Direction) (d : TapeControl) : TapeControl :=
  match d.connectedUnit with
  | some u =>
    if tapeCanMove m d && !(d.running && u.inRecord) then
      { d.change u.number (startMotion d.reverse (.record m)) with
        running := true
        longitudinal := false
        vertical := d.vertical && decide (m = .write) }
    else d
  | none => d

/-- A Read or Write begins: a record that still moves is none of its. -/
def tapeBegin (m : Direction) (d : TapeControl) : TapeControl := tapeRun m { d with running := false }

/-- Rule R386: two frames of a byte written on tape. -/
def tapeTake (b : Byte12) (d : TapeControl) : TapeControl :=
  let d := tapeRun .write d
  match d.unit with
  | none => d
  | some n => d.change n fun u =>
      { u with written := toTape d.binary (lowerFrame b) :: toTape d.binary (upperFrame b) :: u.written }

/-- The abnormal conditions of rule R384 on the lines of a unit and the control. -/
def tapeAbnormal (u : TapeUnit) (d : TapeControl) : Bool :=
  u.endOfTape || u.fileMark || u.loadPoint || d.vertical || d.longitudinal || d.lostData

/-- Rule R384: the conditions of the three interrupts. -/
def tapeCondition (l : Link) (d : TapeControl) (k : InterruptKind) : Bool :=
  match k with
  | .ready => d.connectedUnit.any fun u => u.ready && u.motion.isNone && l.op.isNone
  | .endOp => d.selections.ended
  | .abnormal => d.selections.trouble

/-- The connected unit was ready in d and is not in e: "Connected Tape Unit Becoming Not Ready" (rule R384). -/
def tapeLost (d e : TapeControl) : Bool :=
  match d.connectedUnit, e.connectedUnit with
  | some u, some v => u.ready && !v.ready
  | _, _ => false

/-- The motion leaves the tape in the gap behind a record. -/
def restsIn (m : Motion) : Option Motion :=
  match m with
  | .record _ => some .gap
  | .gap | .rewind | .rewindUnload | .backspace | .searchForward | .searchBackward | .writeEndOfFile | .skipBadSpot =>
    none

/-- File Mark after the motion m, which met a file mark if fm holds: "up after a search finds a file mark or after one is
written" (rule R385). DESIGN CHOICE (assumption 19): after a Read or Backspace that meets one too. -/
def markAfter (m : Motion) (fm old : Bool) : Bool :=
  match m with
  | .writeEndOfFile => true
  | .searchForward | .searchBackward | .backspace | .record .read => fm
  | .record .write | .gap | .rewind | .rewindUnload | .skipBadSpot => old

/-- Load Point after the motion m, which came to load point if lp holds: a Rewind ends there (rule R382), another motion
only if it goes towards it, and a Rewind Unload takes the tape off. -/
def loadPointAfter (m : Motion) (backward lp : Bool) : Bool :=
  decide (m = .rewind) || (backward && lp && decide (m ≠ .rewindUnload))

/-- End of Tape after the motion m, which ended at or behind the marker if eot holds: a forward motion raises it, and only
a motion back past the marker drops it (rule R385), as a Rewind does. -/
def endOfTapeAfter (m : Motion) (backward eot old : Bool) : Bool :=
  if backward then old && eot && decide (m ≠ .rewind ∧ m ≠ .rewindUnload) else old || eot

/-- A unit after its motion m has ended with these lines (rule R382, rule R385): an end of file mark is a frame of 17
octal. -/
def stopMotion (m : Motion) (fm lp eot : Bool) (u : TapeUnit) : TapeUnit :=
  { u with
    motion := restsIn m
    ready := u.ready && decide (m ≠ .rewindUnload)
    fileMark := markAfter m fm u.fileMark
    loadPoint := loadPointAfter m u.backward lp
    endOfTape := endOfTapeAfter m u.backward eot u.endOfTape
    written := if m = .writeEndOfFile then 0o17#6 :: u.written else u.written }

/-- The motion is one whose end is an End of Operation: a search only if it found a file mark (rule R384). -/
def endsOperation (m : Motion) (fm : Bool) : Bool :=
  match m with
  | .gap | .rewindUnload => false
  | .searchForward | .searchBackward => fm
  | .record _ | .rewind | .backspace | .writeEndOfFile | .skipBadSpot => true

/-- The tape is read during the motion. -/
def readsTape (m : Motion) : Bool :=
  match m with
  | .record .read | .backspace | .searchForward | .searchBackward => true
  | .record .write | .gap | .rewind | .rewindUnload | .writeEndOfFile | .skipBadSpot => false

/-- An end of record check character is read or written in the motion (rule R384): DESIGN CHOICE (assumption 19) which
motions those are; a Skip Bad Spot, which erases, is none. -/
def passesCheck (m : Motion) : Bool :=
  match m with
  | .record _ | .backspace | .searchForward | .searchBackward | .writeEndOfFile => true
  | .gap | .rewind | .rewindUnload | .skipBadSpot => false

/-- The motion m of unit n ends with these lines. An abnormal condition counts where "an end of record check character
is written/read" (rule R384). Vertical Parity Error appears "when an end of file mark is read in Binary mode"
(rule R385). DESIGN CHOICE (assumption 19): the end counts for the control's End of Operation and abnormal interrupts
also where the unit is no longer the one connected. -/
def tapeStop (n : BitVec 4) (m : Motion) (fm lp eot : Bool) (d : TapeControl) : TapeControl :=
  let e := d.change n (stopMotion m fm lp eot)
  let e := { e with vertical := d.vertical || (fm && d.binary && readsTape m) }
  let abnormal := passesCheck m && (e.find n).any fun u => tapeAbnormal u e
  { e with
    running := d.running && !((restsIn m).isSome && decide (d.unit = some n))
    selections := (d.selections.endedIf (endsOperation m fm)).troubledIf (abnormal || tapeLost d e) }

/-- The end of the record that the connected unit n moves for a Read is an End of Record (rule R380). -/
def tapeRecordSignal (l : Link) (n : BitVec 4) (d : TapeControl) : List Signal :=
  if l.op = some .read ∧ d.running ∧ d.unit = some n then [.endOfRecord] else []

/-- The record that unit n moves for a Write, which ends when the Write does, or loses its data (rule R385), or the unit
is no longer ready. -/
def tapeWriting (l : Link) (u : TapeUnit) (d : TapeControl) : Bool :=
  decide (l.op = some .write) && d.running && decide (d.unit = some u.number) && u.ready && !d.lostData

/-- The end of the motion of unit n. DESIGN CHOICE (assumption 19): the control that moved it sees the end though another
unit, or none, is now connected to it; but another channel of this computer that has the unit reserved sees it itself. -/
def tapeMotionDone (l : Link) (n : BitVec 4) (fm lp eot : Bool) (d : TapeControl) : TapeControl × List Signal :=
  match d.find n with
  | none => (d, [])
  | some u =>
    if u.holder.others l.channel && decide (u.holder ≠ .outside) then (d, [])
    else match u.motion with
      | none => (d, [])
      | some .gap => (d.change n fun v => { v with motion := none }, [])
      | some (.record r) =>
        if tapeWriting l u d then (d, []) else (tapeStop n (.record r) fm lp eot d, tapeRecordSignal l n d)
      | some m => (tapeStop n m fm lp eot d, [])

/-- A Read's record comes to its end with the lines as they are, where one is moving or can move (rule R380,
rule R385). -/
def tapeEndOfRecord (l : Link) (d : TapeControl) : TapeControl × List Signal :=
  let moving := d.running && d.connectedUnit.any fun u => u.ready && u.inRecord
  if l.op = some .read ∧ (moving || tapeCanMove .read d) then
    let e := tapeRun .read d
    match e.connectedUnit with
    | some u => (tapeStop u.number (.record .read) u.fileMark u.loadPoint u.endOfTape e, [.endOfRecord])
    | none => (e, [])
  else (d, [])

/-- A unit placed, or moved to another number: its connection and reservation are cleared (rule R378). -/
def tapePlace (old : BitVec 4) (u : TapeUnit) (d : TapeControl) : TapeControl :=
  { d with
    units := { u with holder := .free } :: d.units.filter fun v => v.number != u.number && v.number != old
    unit := if d.unit = some u.number ∨ d.unit = some old then none else d.unit }

/-- A tape unit becomes ready or not. -/
def tapeUnitReady (n : BitVec 4) (b : Bool) (d : TapeControl) : TapeControl :=
  let e := d.change n fun u => { u with ready := b }
  { e with selections := d.selections.troubledIf (tapeLost d e) }

def tapeHappen (l : Link) (h : Happening) (d : TapeControl) : TapeControl × List Signal :=
  match h with
  | .mount u => (tapePlace u.number u d, [])
  | .renumber old new => match d.find old with
    | none => (d, [])
    | some u => (tapePlace old { u with number := new } d, [])
  | .unitReady n b => (tapeUnitReady n b d, [])
  | .unitReserve n b => (d.change n fun u => { u with holder := u.holder.outsider b }, [])
  | .motionDone n fm lp eot => tapeMotionDone l n fm lp eot d
  | .frames hi lo =>
    if l.op = some .read ∧ tapeCanMove .read d then
      (tapeRun .read d, [.data (fromTape d.binary hi ++ fromTape d.binary lo)])
    else (d, [])
  | .lostData => ({ d with lostData := d.lostData || l.op.isSome }, [])
  | .tapeParity p v => ({ d with longitudinal := d.longitudinal || p, vertical := d.vertical || v }, [])
  | .endOfRecord => tapeEndOfRecord l d
  | .respond k => ({ d with selections := d.selections.raise k (tapeCondition l d k) }, [])
  | _ => (d, [])

/-- Rule R381: Clear Channel releases the units this control has reserved, an external master clear those of all
controls; both drop File Mark at the units they release (rule R385: "or MC"). Of the format "all Clear operations ...
place the 362X in binary format"; DESIGN CHOICE (assumption 19): the density stays, Reverse Read is dropped. -/
def tapeClear (l : Link) (k : ClearScope) (d : TapeControl) : TapeControl :=
  let released (u : TapeUnit) : TapeUnit :=
    if k = .channel ∧ u.holder ≠ .channel l.channel then u else { u with holder := .free, fileMark := false }
  { d.changeAll released with
    unit := none
    running := false
    binary := true
    reverse := false
    selections := {}
    lostData := false
    longitudinal := false
    vertical := false
    reserveReject := false }

/-- The units as another control left them: a connection ends with the reservation (rule R378, rule R381 (5)). -/
def tapeFollow (x : Nat) (units : List TapeUnit) (d : TapeControl) : TapeControl :=
  let kept := d.unit.filter fun n => match findUnit units n with
    | none => false
    | some u => u.holder.mine x
  let e := { d with units := units, unit := kept }
  { e with selections := d.selections.troubledIf (tapeLost d e) }

/-! ## The 3682 satellite coupler -/

/-- Rule R395, rule R396: an abnormal or active interrupt condition that is met sends its signal, which stays up. -/
def Coupler.settle (d : Coupler) : Coupler :=
  { d with
    abnormalUp := d.abnormalUp || (d.mask.getLsbD 8 && (d.otherParity || !d.otherRunning))
    activeUp := d.activeUp || (d.mask.getLsbD 9 && (d.otherRead || d.otherWrite)) }

/-- Rule R396. -/
def couplerFunction (c : Byte12) (d : Coupler) : Answer × Coupler :=
  let n : BitVec 8 := c.extractLsb' 0 8
  let n10 : BitVec 10 := 0#2 ++ n
  match (c.extractLsb' 8 4).toNat, n.toNat with
  | 0b0001, _ => (.reply, { d with flags := d.flags ||| n })
  | 0b0010, _ => (.reply, { d with flags := d.flags &&& ~~~n })
  | 0b0100, _ => (.reply, { d with mask := d.mask ||| n10 })
  | 0b1000, _ => (.reply, { d with mask := d.mask &&& ~~~n10 })
  | 0, 0b0001 => (.reply, Coupler.settle { d with mask := d.mask ||| 0o0400 })
  | 0, 0b0010 => (.reply, { d with mask := d.mask &&& ~~~0o0400, abnormalUp := false })
  | 0, 0b0100 => (.reply, Coupler.settle { d with mask := d.mask ||| 0o1000 })
  | 0, 0b1000 => (.reply, { d with mask := d.mask &&& ~~~0o1000, activeUp := false })
  | _, _ => (.reject, d)

/-- Rule R397. -/
def couplerStatus (d : Coupler) : Byte12 :=
  0#4 ++ d.flags ||| statusLine 8 d.otherRunning ||| statusLine 9 d.otherRead ||| statusLine 10 d.otherWrite |||
    statusLine 11 d.otherParity

/-- Rule R395: a flag and its mask bit are both one, or a signal of rule R396 is up. -/
def couplerInterrupt (d : Coupler) : Bool :=
  decide (d.flags &&& d.mask.extractLsb' 0 8 ≠ 0) || d.abnormalUp || d.activeUp

/-- Rule R398: data comes while the other division writes; dropping its Write sends End of Record. -/
def couplerHappen (l : Link) (h : Happening) (d : Coupler) : Coupler × List Signal :=
  match h with
  | .flags set clear => ({ d with flags := (d.flags ||| set) &&& ~~~clear }, [])
  | .otherDivision running read write parity =>
    let ended := d.otherWrite && !write && decide (l.op = some .read)
    (Coupler.settle { d with otherRunning := running, otherRead := read, otherWrite := write, otherParity := parity },
      if ended then [.endOfRecord] else [])
  | .data b => (d, if l.op = some .read ∧ d.otherWrite then [.data b] else [])
  | _ => (d, [])

/-- Rule R397: a master clear clears all selected interrupt conditions in the division, that of power coming on the
flags too. -/
def couplerClear (k : ClearScope) (d : Coupler) : Coupler :=
  { d with
    mask := 0
    abnormalUp := false
    activeUp := false
    paritySignal := false
    flags := if k = .power then 0 else d.flags }

/-! ## The 3644 card punch -/

/-- Someone other than channel x has it, reserved or in use. -/
def CardPunch.taken (d : CardPunch) (x : Nat) : Bool := (d.holder.orUser d.user).others x

/-- Rule R401; a code issued to the controller drops Compare Error (rule R402). -/
def cardPunchConnect (x : Nat) (d : CardPunch) : Answer × CardPunch :=
  let e := { d with compareError := false }
  if d.taken x then (.reject, e) else (.reply, { e with holder := .channel x })

/-- Rule R401: "only one may use it at a time" (rule R400). -/
def cardPunchFunction (x : Nat) (c : Byte12) (d : CardPunch) : Answer × CardPunch :=
  let e := { d with compareError := false }
  if d.taken x then (.reject, e)
  else match c.toNat with
    | 0o0000 => (.reply, { e with holder := d.holder.releasedBy x })
    | 0o0001 => (.reply, { e with negate := true })
    | 0o0002 => (.reply, { e with negate := false })
    | 0o0004 => if d.ready && !d.busy then (.reply, { e with busy := true }) else (.reject, e)
    | 0o0005 => (.reply, { e with selections := {}, negate := false })
    | code => match selectionCode code d.selections with
      | some s => (.reply, { e with selections := s })
      | none => (.reject, e)

/-- Rule R402: busy "with a Write operation" of the channel itself or of the one that uses it. -/
def cardPunchStatus (l : Link) (d : CardPunch) : Byte12 :=
  statusLine 0 d.ready ||| statusLine 1 (d.busy || d.user.isSome || decide (l.op = some .write)) |||
    statusLine 6 d.feedFail ||| d.selections.status ||| statusLine 10 d.compareError |||
    statusLine 11 (d.taken l.channel)

/-- It can take a byte: no one else has it (rule R400), it is ready and not busy. -/
def cardPunchFree (x : Nat) (d : CardPunch) : Bool := !d.taken x && d.ready && !d.busy

/-- A Write begins: it uses the punch, unless someone else has it. -/
def cardPunchBegin (x : Nat) (d : CardPunch) : CardPunch := if d.taken x then d else { d with user := some x }

/-- The card under way is punched. -/
def punchCard (d : CardPunch) : CardPunch := { d with busy := true, columns := [], cards := d.columns :: d.cards }

/-- Rule R400, rule R402: a byte is two converted columns, or one as received; the eightieth column punches. A Write
that had to wait for another uses the punch from its first byte on. The conversion stays what it is until the card is
punched, since no clear changes it in the middle of a Write (`cardPunchClear`). -/
def cardPunchTake (x : Nat) (b : Byte12) (d : CardPunch) : CardPunch :=
  let columns := if d.negate then b :: d.columns
    else hollerith (lowerFrame b) :: hollerith (upperFrame b) :: d.columns
  let d := { d with columns := columns, user := some x }
  if columns.length < 80 then d else punchCard d

/-- A Write ends: a card not full is punched; with none to punch the operation has ended (rule R401, rule R402). -/
def cardPunchEnd (x : Nat) (d : CardPunch) : CardPunch :=
  if d.taken x then d
  else
    let e := { d with user := none }
    if !d.columns.isEmpty then punchCard e
    else { e with selections := d.selections.endedIf !d.busy }

/-- A card cycle ends: only now does the punch become not ready (rule R402); the ends of operation of rule R401. -/
def cardDone (compareError : Bool) (d : CardPunch) : CardPunch :=
  if !d.busy then d
  else
    let ready := d.ready && !d.lapse
    let wrong := d.compareError || compareError
    { d with
      busy := false
      ready := ready
      lapse := false
      compareError := wrong
      selections := (d.selections.endedIf (d.user.isNone || !ready || wrong)).troubledIf (wrong || d.feedFail || !ready) }

/-- Rule R401: the conditions of the three interrupts. -/
def cardPunchCondition (d : CardPunch) : InterruptKind → Bool
  | .ready => d.ready && !d.busy && d.user.isNone
  | .endOp => d.selections.ended
  | .abnormal => d.selections.trouble

def cardPunchHappen (x : Nat) (h : Happening) (d : CardPunch) : CardPunch :=
  match h with
  | .ready b => if b then { d with ready := true, lapse := false } else { d with lapse := true }
  | .otherReserve b => { d with holder := d.holder.outsider (b && d.user.isNone) }
  | .failure b => { d with feedFail := b }
  | .cardDone e => cardDone e d
  | .respond k => if d.taken x then d else { d with selections := d.selections.raise k (cardPunchCondition d k) }
  | _ => d

/-- Rule R351; "An external master clear or Clear Channel code will also release any reservation" (rule R402). A clear
restores the conversion to Hollerith, which only function 0005 is said to do, and drops the columns of a card not yet
full, unless another channel's Write loads them, which goes on with its conversion, and leaves Compare Error up, since a
clear is no code issued to the controller: DESIGN CHOICE (assumption 21). -/
def cardPunchClear (x : Nat) (d : CardPunch) : CardPunch :=
  let user := d.user.filter fun y => decide (y ≠ x)
  { d with
    holder := .free
    negate := d.negate && user.isSome
    user := user
    selections := {}
    columns := if user.isSome then d.columns else [] }

/-! ## The 3649 card reader -/

/-- Someone other than channel x has it, reserved or in use. -/
def CardReader.taken (d : CardReader) (x : Nat) : Bool := (d.holder.orUser d.user).others x

/-- Rule R409. -/
def cardReaderConnect (x : Nat) (d : CardReader) : Answer × CardReader :=
  if d.taken x then (.reject, d) else (.reply, { d with holder := .channel x })

/-- Rule R409. -/
def cardReaderFunction (x : Nat) (c : Byte12) (d : CardReader) : Answer × CardReader :=
  if d.taken x then (.reject, d)
  else match c.toNat with
    | 0o0000 => (.reply, { d with holder := d.holder.releasedBy x })
    | 0o0001 => (.reply, { d with negate := true })
    | 0o0002 => (.reply, { d with negate := false })
    | 0o0004 => (.reply, { d with gate := true })
    | 0o0005 => (.reply, { d with selections := {}, negate := false })
    | code => match selectionCode code d.selections with
      | some s => (.reply, { d with selections := s })
      | none => (.reject, d)

/-- Rule R410. -/
def cardReaderStatus (x : Nat) (d : CardReader) : Byte12 :=
  statusLine 0 d.loaded ||| statusLine 1 d.busy ||| statusLine 2 (d.loaded && d.binary) |||
    statusLine 3 (d.eofSwitch && d.hopperEmpty && !d.loaded) ||| statusLine 4 d.stackerFull |||
    statusLine 5 d.hopperEmpty ||| statusLine 6 d.feedFail ||| d.selections.status |||
    statusLine 10 d.compareError ||| statusLine 11 (d.taken x)

/-- The internal BCD code of a column; a combination of holes not in the table reads as free bits. -/
def readColumn (free : BitVec 6) (col : Byte12) : BitVec 6 := (fromHollerith col).getD free

/-- A card enters the empty reader memory (rule R408, rule R409): 80 columns, or the 51 of a short card. DESIGN CHOICE
(assumption 21): the bits of a column are the rows as in the punch (`cardRow`), so rows 7 and 9 are bits 2 and 0. -/
def loadCard (cols : List Byte12) (d : CardReader) : CardReader :=
  if d.loaded then d
  else
    let short := decide (cols.length = 51)
    let first := cols.headD 0
    { d with
      loaded := true
      started := false
      gate := false
      binary := first.getLsbD 2 && first.getLsbD 0
      short := short
      columns := if short then cols else (cols ++ List.replicate 80 0).take 80 }

/-- A Read begins: it uses the reader, unless someone else has it. -/
def cardReaderBegin (x : Nat) (d : CardReader) : CardReader := if d.taken x then d else { d with user := some x }

/-- The reader memory without its card. -/
def CardReader.unloaded (d : CardReader) : CardReader := { d with loaded := false, columns := [], started := false }

/-- Rule R408: the next byte of the card, one column as it is or two translated; then End of Record. -/
def nextCardByte (free : Word) (d : CardReader) : CardReader × List Signal :=
  let d := { d with started := true }
  match d.columns with
  | [] => (d.unloaded, [.endOfRecord])
  | c :: rest =>
    if d.binary || d.negate || d.short then ({ d with columns := rest }, [.data c])
    else
      let second := rest.headD 0
      ({ d with columns := rest.tail },
        [.data (readColumn (free.extractLsb' 0 6) c ++ readColumn (free.extractLsb' 6 6) second)])

/-- A Read ends: "If a portion of a card is read from memory ... The remainder of the card is discarded" (rule R409); a
card of which nothing has been read stays. -/
def cardReaderEnd (x : Nat) (d : CardReader) : CardReader :=
  if d.taken x then d
  else
    let e := if d.started then d.unloaded else d
    { e with user := none, selections := d.selections.endedIf true }

/-- The normal condition of rule R410. -/
def cardReaderNormal (l : Link) (d : CardReader) : Bool :=
  !d.hopperEmpty && !d.stackerFull && d.loaded && !d.feedFail && !d.compareError && d.auto && l.connected

/-- Rule R409: the conditions of the three interrupts. That of abnormal end holds whenever the condition is not normal,
even where the failure is older than the selection or the memory is merely unloaded: DESIGN CHOICE (assumption 21),
"when a failure occurs in a normal condition" does not settle it. -/
def cardReaderCondition (l : Link) (d : CardReader) : InterruptKind → Bool
  | .ready => d.loaded && !d.busy
  | .endOp => d.selections.ended
  | .abnormal => !cardReaderNormal l d

def cardReaderHappen (free : Word) (l : Link) (h : Happening) (d : CardReader) : CardReader × List Signal :=
  match h with
  | .ready b => ({ d with auto := b }, [])
  | .busy b => ({ d with busy := b }, [])
  | .otherReserve b => ({ d with holder := d.holder.outsider (b && d.user.isNone) }, [])
  | .failure b => ({ d with feedFail := b }, [])
  | .cardLines f s e => ({ d with eofSwitch := f, stackerFull := s, hopperEmpty := e }, [])
  | .tapeParity _ e => ({ d with compareError := e }, [])
  | .cardLoaded cols => (loadCard cols d, [])
  | .nextByte =>
    if l.op = some .read ∧ d.loaded ∧ !d.taken l.channel then nextCardByte free { d with user := some l.channel }
    else (d, [])
  | .respond k =>
    if d.taken l.channel then (d, [])
    else ({ d with selections := d.selections.raise k (cardReaderCondition l d k) }, [])
  | _ => (d, [])

/-- Rule R351: a clear, which leaves the reader alone while someone else has it; a Read it ends discards the rest of the
card (rule R409). It also cancels a Set Gate Card, of which the rules say nothing, and the Negate condition: DESIGN
CHOICE (assumption 21). -/
def cardReaderClear (l : Link) (k : ClearScope) (d : CardReader) : CardReader :=
  if d.taken l.channel && decide (k ≠ .power) then d
  else
    let e := if l.op = some .read then cardReaderEnd l.channel d else d
    { e with
      holder := .free
      negate := false
      user := e.user.filter fun y => decide (y ≠ l.channel)
      selections := {}
      gate := false }

/-! ## Any equipment -/

/-- The device's answer, on channel x, to a connect code of its own number. Where an equipment is "N000" (the printer,
the coupler, the card punch and reader) the low nine bits of the code do not matter: DESIGN CHOICE (assumption 18), the
rules do not say what other values of them do. -/
def deviceConnect (x : Nat) (c : Byte12) : Device → Answer × Device
  | .typewriter d => (if d.on then .reply else .silent, .typewriter d)
  | .printer d => ((printerConnect x d).1, .printer (printerConnect x d).2)
  | .paperTape d => ((paperTapeConnect c d).1, .paperTape (paperTapeConnect c d).2)
  | .tape d => ((tapeConnect x c d).1, .tape (tapeConnect x c d).2)
  | .coupler d => (.reply, .coupler d)
  | .cardPunch d => ((cardPunchConnect x d).1, .cardPunch (cardPunchConnect x d).2)
  | .cardReader d => ((cardReaderConnect x d).1, .cardReader (cardReaderConnect x d).2)
  | .other d => (d.onConnect, .other d)

/-- A device that its channel stays connected to when it rejects: the tape control, of which only the unit is refused
(rule R378), and an equipment no rule speaks of. The printer, the punch and the reader are then only "'connected' in
the sense that information will be available" (rule R361, rule R401). -/
def deviceStays : Device → Bool
  | .tape _ | .other _ => true
  | .typewriter _ | .printer _ | .paperTape _ | .coupler _ | .cardPunch _ | .cardReader _ => false

/-- A device whose status is gated to the channel although this was its answer to a connect: the 3655, 3644 and 3649
after a Reject (rule R351), the 362X, which then shows Reserve Reject (rule R385), and the 3655 after any connect of its
number (rule R364). -/
def deviceGates : Answer → Device → Bool
  | .reject, .printer _ | .reject, .cardPunch _ | .reject, .cardReader _ | .reject, .tape _ => true
  | .silent, .printer _ => true
  | _, _ => false

/-- A device whose connection a code of another number does not clear: a typewriter with a transmission parity error
that has not been cleared (rule R352). What that means for its channel no rule says, DESIGN CHOICE (assumption 11): if
nothing answers the code, CONNECTED[x] becomes none as after any such code (rule R310) and EXTF is rejected, yet the
status of the typewriter is read and a Write reaches it; if another equipment answers, two are connected. -/
def deviceClings : Device → Bool
  | .typewriter d => d.transmissionError
  | _ => false

/-- A device after a code of another number has dropped its connection: that of a tape control ends the connection of
its unit too (rule R378, rule R379). -/
def deviceDrop : Device → Device
  | .tape d => .tape { d with unit := none }
  | d => d

/-- A device that has met a connect code of its own number with bad parity: of the equipments of file 47 only the 3682
returns a Parity Error signal then, which sets no bit of the channel (rule R331 case 2, rule R395). -/
def deviceParity : Device → Device
  | .coupler d => .coupler { d with paritySignal := true }
  | d => d

/-- The device's answer to a function code. -/
def deviceFunction (x : Nat) (free : Word) (c : Byte12) : Device → Answer × Device
  | .typewriter d => (if d.on then .reply else .silent, .typewriter (if d.on then typewriterFunction free c d else d))
  | .printer d => ((printerFunction x c d).1, .printer (printerFunction x c d).2)
  | .paperTape d => ((paperTapeFunction c d).1, .paperTape (paperTapeFunction c d).2)
  | .tape d => ((tapeFunction x c d).1, .tape (tapeFunction x c d).2)
  | .coupler d => ((couplerFunction c d).1, .coupler (couplerFunction c d).2)
  | .cardPunch d => ((cardPunchFunction x c d).1, .cardPunch (cardPunchFunction x c d).2)
  | .cardReader d => ((cardReaderFunction x c d).1, .cardReader (cardReaderFunction x c d).2)
  | .other d => (d.onFunction, .other d)

/-- Its twelve status lines. -/
def deviceStatus (l : Link) : Device → Byte12
  | .typewriter d => typewriterStatus d
  | .printer d => printerStatus l.channel d
  | .paperTape d => paperTapeStatus l d
  | .tape d => tapeStatus l d
  | .coupler d => couplerStatus d
  | .cardPunch d => cardPunchStatus l d
  | .cardReader d => cardReaderStatus l.channel d
  | .other d => d.status

/-- Its Interrupt signal on channel x. A card punch or reader that someone else has sends it there. -/
def deviceInterrupt (x : Nat) : Device → Bool
  | .typewriter d => d.interruptUp
  | .printer d => d.interruptUp
  | .paperTape d => d.selections.up
  | .tape d => d.selections.up
  | .coupler d => couplerInterrupt d
  | .cardPunch d => d.selections.up && !d.taken x
  | .cardReader d => d.selections.up && !d.taken x
  | .other d => d.interrupt

/-- Its Reverse Assembly signal (rule R380). -/
def deviceReverse : Device → Bool
  | .tape d => d.reverse
  | .other d => d.reverse
  | _ => false

/-- A Read or Write of channel x begins: the typewriter goes to lower case for a Write (rule R355). -/
def deviceBegin (x : Nat) (m : Direction) : Device → Device
  | .typewriter d => .typewriter (if m = .write then typewriterShift d else d)
  | .printer d => .printer (if m = .write then printerBegin x d else d)
  | .paperTape d => .paperTape (paperTapeBegin d)
  | .tape d => .tape (tapeBegin m d)
  | .cardPunch d => .cardPunch (if m = .write then cardPunchBegin x d else d)
  | .cardReader d => .cardReader (if m = .read then cardReaderBegin x d else d)
  | d => d

/-- A Read or Write of channel x ends: its signal drops (rule R355, rule R362, rule R372, rule R402, rule R409). -/
def deviceEnd (x : Nat) (m : Direction) : Device → Device
  | .typewriter d => .typewriter (if m = .write then typewriterShift d else d)
  | .printer d => .printer (if m = .write then printerEnd x d else d)
  | .paperTape d => .paperTape { d with selections := d.selections.endedIf true }
  | .tape d => .tape { d with running := false }
  | .cardPunch d => .cardPunch (if m = .write then cardPunchEnd x d else d)
  | .cardReader d => .cardReader (if m = .read then cardReaderEnd x d else d)
  | d => d

/-- It answers the next output byte of channel x. -/
def deviceCanTake (x : Nat) : Device → Bool
  | .typewriter d => d.on
  | .printer d => printerFree x d
  | .paperTape d => decide (d.station = .punch) && d.punchReady
  | .tape d => tapeCanMove .write d
  | .coupler d => d.otherRead
  | .cardPunch d => cardPunchFree x d
  | .cardReader _ => false
  | .other d => d.takes

/-- It takes an output byte of channel x that it answers; `mark` is the Word Mark (rule R392), `bad` a byte with bad
parity (rule R331), which is taken as it came: DESIGN CHOICE (assumption 11), case 3 only says that the Write goes on. -/
def deviceAccept (x : Nat) (mark bad : Bool) (b : Byte12) : Device → Device
  | .typewriter d => .typewriter (typewriterTake bad b d)
  | .printer d => .printer (printerTake b d)
  | .paperTape d => .paperTape (paperTapeTake mark b d)
  | .tape d => .tape (tapeTake b d)
  | .coupler d => .coupler { d with sent := b :: d.sent }
  | .cardPunch d => .cardPunch (cardPunchTake x b d)
  | .cardReader d => .cardReader d
  | .other d => .other { d with received := b :: d.received }

/-- It meets an output byte of channel x: where two equipments are connected (assumption 11) the one may answer a byte that
the other cannot take. -/
def deviceTake (x : Nat) (mark bad : Bool) (b : Byte12) (d : Device) : Device :=
  if deviceCanTake x d then deviceAccept x mark bad b d else d

/-- Something happens to it; what it then sends to the channel. -/
def deviceHappen (free : Word) (l : Link) (h : Happening) : Device → Device × List Signal
  | .typewriter d => (.typewriter (typewriterHappen l h d).1, (typewriterHappen l h d).2)
  | .printer d => (.printer (printerHappen h d), [])
  | .paperTape d => (.paperTape (paperTapeHappen l h d).1, (paperTapeHappen l h d).2)
  | .tape d => (.tape (tapeHappen l h d).1, (tapeHappen l h d).2)
  | .coupler d => (.coupler (couplerHappen l h d).1, (couplerHappen l h d).2)
  | .cardPunch d => (.cardPunch (cardPunchHappen l.channel h d), [])
  | .cardReader d => (.cardReader (cardReaderHappen free l h d).1, (cardReaderHappen free l h d).2)
  | .other d => match h with
    | .behave c f t => (.other { d with onConnect := c, onFunction := f, takes := t }, [])
    | .lines s i r => (.other { d with status := s, interrupt := i, reverse := r }, [])
    | .data b => (.other d, if l.op = some .read then [.data b] else [])
    | .endOfRecord => (.other d, if l.op = some .read then [.endOfRecord] else [])
    | _ => (.other d, [])

/-- What a clear does to it (rule R351, rule R358, rule R364, rule R381, rule R397, rule R402, rule R409). -/
def deviceClear (l : Link) (k : ClearScope) : Device → Device
  | .typewriter d => .typewriter (typewriterClear l d)
  | .printer d => .printer (printerClear l k d)
  | .paperTape d => .paperTape (paperTapeClear d)
  | .tape d => .tape (tapeClear l k d)
  | .coupler d => .coupler (couplerClear k d)
  | .cardPunch d => .cardPunch (cardPunchClear l.channel d)
  | .cardReader d => .cardReader (cardReaderClear l k d)
  | .other d => .other { d with interrupt := false }

/-- A side of a machine, on channel x, after another of its sides has become src: what the sides share follows. -/
def deviceFollow (x : Nat) (src : Device) (d : Device) : Device :=
  match src, d with
  | .printer a, .printer b => .printer { b with machine := a.machine }
  | .tape a, .tape b => .tape (tapeFollow x a.units b)
  | .cardPunch a, .cardPunch _ => .cardPunch a
  | .cardReader a, .cardReader _ => .cardReader a
  | _, _ => d

/-! ## The equipments of a channel -/

/-- How an equipment of channel x, whose operation is op, stands to it. -/
def Equipment.link (x : Nat) (op : Option Direction) (e : Equipment) : Link :=
  { channel := x, connected := e.connected, op := if e.connected then op else none }

/-- An equipment's answer to a connect code (rule R351): a code of another number drops its connection. -/
def equipmentConnect (x : Nat) (c : Byte12) (e : Equipment) : Answer × Equipment :=
  if c.extractLsb' 9 3 = e.number then
    match deviceConnect x c e.device with
    | (.reply, d) => (.reply, { e with connected := true, gated := false, device := d })
    | (.reject, d) =>
      (.reject, { e with connected := e.connected && deviceStays d, gated := deviceGates .reject d, device := d })
    | (.silent, d) => (.silent, { e with connected := false, gated := deviceGates .silent d, device := d })
  else if deviceClings e.device then (.silent, e)
  else (.silent, { e with connected := false, gated := false, device := deviceDrop e.device })

/-- The answer a channel sees: the first that is not silence. -/
def Answer.or : Answer → Answer → Answer
  | .silent, y => y
  | x, _ => x

/-- A connect code reaches every equipment of channel x. -/
def connectAll (x : Nat) (c : Byte12) : List Equipment → Answer × List Equipment
  | [] => (.silent, [])
  | e :: es =>
    ((equipmentConnect x c e).1.or (connectAll x c es).1, (equipmentConnect x c e).2 :: (connectAll x c es).2)

/-- The equipments after a connect code that arrived with bad parity, which none answers (rule R331 case 2). -/
def connectParity (c : Byte12) (es : List Equipment) : List Equipment :=
  es.map fun e => if c.extractLsb' 9 3 = e.number then { e with device := deviceParity e.device } else e

/-- A function code reaches the equipment of channel x that is connected. -/
def functionAll (x : Nat) (free : Word) (c : Byte12) : List Equipment → Answer × List Equipment
  | [] => (.silent, [])
  | e :: es =>
    if e.connected then
      ((deviceFunction x free c e.device).1.or (functionAll x free c es).1,
        { e with device := (deviceFunction x free c e.device).2 } :: (functionAll x free c es).2)
    else ((functionAll x free c es).1, e :: (functionAll x free c es).2)

/-- The same change to the device of every connected equipment. -/
def mapConnected (f : Device → Device) (es : List Equipment) : List Equipment :=
  es.map fun e => if e.connected then { e with device := f e.device } else e

/-- The status lines of channel x, whose operation is op (rule R304): with no equipment connected they read 0. -/
def statusLines (x : Nat) (op : Option Direction) : List Equipment → Byte12
  | [] => 0
  | e :: es =>
    (if e.connected || e.gated then deviceStatus (e.link x op) e.device else 0) ||| statusLines x op es

/-- The eight interrupt lines of channel x (rule R304): line N is that of equipment number N. -/
def interruptLines (x : Nat) : List Equipment → BitVec 8
  | [] => 0
  | e :: es => (if deviceInterrupt x e.device then 1#8 <<< e.number.toNat else 0) ||| interruptLines x es

/-- A clear at every equipment of channel x, whose operation was op (rule R316, rule R481). -/
def clearAll (x : Nat) (op : Option Direction) (k : ClearScope) (es : List Equipment) : List Equipment :=
  es.map fun e => { e with connected := false, gated := false, device := deviceClear (e.link x op) k e.device }

/-- Something happens to one equipment of channel x (rule R351). DESIGN CHOICE (assumption 26): power that comes on is a
master clear of every kind of equipment and leaves it not connected, CONNECTED[x] as it was. -/
def equipmentHappen (x : Nat) (op : Option Direction) (free : Word) (h : Happening) (e : Equipment) :
    Equipment × List Signal :=
  match h with
  | .powerOn => ({ e with connected := false, gated := false, device := deviceClear (e.link x op) .power e.device }, [])
  | _ => ({ e with device := (deviceHappen free (e.link x op) h e.device).1 },
      (deviceHappen free (e.link x op) h e.device).2)

/-- An equipment of channel x after those of another channel have become src: the side of a machine that has a side
there follows it (rule R360, rule R377, rule R400, rule R409). -/
def equipmentFollow (x : Nat) (src : List Equipment) (e : Equipment) : Equipment :=
  match e.machine, src.find? fun f => f.machine.isSome && f.machine == e.machine with
  | some _, some f => { e with device := deviceFollow x f.device e.device }
  | _, _ => e

/-- How many equipments of a channel are set to a number (file 93, U17). -/
def countNumber (n : BitVec 3) (es : List Equipment) : Nat := (es.filter fun e => e.number == n).length

end Sys2Proof.Machine
end

