-- ==== Sys2Proof/Syntax.lean ====
section
/-! DEFINITION. The instructions: one constructor for each row of spec/opcode_table.json, in the table's order.
The operands are the fields of the row's encoding, at their own widths (rule R91 to rule R95). `b` is the index
designator, `j` the condition designator, `v` the second index designator, `m`, `y`, `k` the base execution address,
`n` the reject jump address, `x` the channel, `c` the connect or function code (rule R98). `rest` holds the bits of an
illegal or undefined code, which mean nothing. -/

namespace Sys2Proof

inductive Instr where
  /-- IAQ, rule R131: Inter-register transmit A and Q. -/
  | iaq
  /-- ATI, rule R148: Transmit A to index. -/
  | ati (b : BitVec 3)
  /-- ARS, rule R200: A right shift. -/
  | ars (b : BitVec 3) (k : Addr)
  /-- QRS, rule R201: Q right shift. -/
  | qrs (b : BitVec 3) (k : Addr)
  /-- LRS, rule R202: AQ right shift. -/
  | lrs (b : BitVec 3) (k : Addr)
  /-- ENQ, rule R145: Enter Q. -/
  | enq (b : BitVec 3) (y : Addr)
  /-- ALS, rule R203: A left shift. -/
  | als (b : BitVec 3) (k : Addr)
  /-- QLS, rule R204: Q left shift. -/
  | qls (b : BitVec 3) (k : Addr)
  /-- LLS, rule R206: AQ left shift. -/
  | lls (b : BitVec 3) (k : Addr)
  /-- ENA, rule R146: Enter A. -/
  | ena (b : BitVec 3) (y : Addr)
  /-- INA, rule R165: Increase A. -/
  | ina (b : BitVec 3) (y : Addr)
  /-- LDA, rule R132: Load A. -/
  | lda (b : BitVec 3) (m : Addr)
  /-- LAC, rule R133: Load A complement. -/
  | lac (b : BitVec 3) (m : Addr)
  /-- ADD, rule R161: Add. -/
  | add (b : BitVec 3) (m : Addr)
  /-- SUB, rule R162: Subtract. -/
  | sub (b : BitVec 3) (m : Addr)
  /-- LDQ, rule R134: Load Q. -/
  | ldq (b : BitVec 3) (m : Addr)
  /-- LQC, rule R135: Load Q complement. -/
  | lqc (b : BitVec 3) (m : Addr)
  /-- STA, rule R136: Store A. -/
  | sta (b : BitVec 3) (m : Addr)
  /-- STQ, rule R137: Store Q. -/
  | stq (b : BitVec 3) (m : Addr)
  /-- MUI, rule R163: Multiply integer. -/
  | mui (b : BitVec 3) (m : Addr)
  /-- DVI, rule R164: Divide integer. -/
  | dvi (b : BitVec 3) (m : Addr)
  /-- FAD, rule R172: Floating add (option; Category II without it). -/
  | fad (b : BitVec 3) (m : Addr)
  /-- FSB, rule R173: Floating subtract. -/
  | fsb (b : BitVec 3) (m : Addr)
  /-- FMU, rule R174: Floating multiply. -/
  | fmu (b : BitVec 3) (m : Addr)
  /-- FDV, rule R175: Floating divide. -/
  | fdv (b : BitVec 3) (m : Addr)
  /-- SCA, rule R208: Scale A. -/
  | sca (b : BitVec 3) (k : Addr)
  /-- SCQ, rule R209: Scale AQ. -/
  | scq (b : BitVec 3) (k : Addr)
  /-- SSK, rule R225: Storage skip. -/
  | ssk (b : BitVec 3) (m : Addr)
  /-- SSH, rule R226: Storage shift. -/
  | ssh (b : BitVec 3) (m : Addr)
  /-- SST, rule R191: Selective set. -/
  | sst (b : BitVec 3) (m : Addr)
  /-- SCL, rule R193: Selective clear. -/
  | scl (b : BitVec 3) (m : Addr)
  /-- SCM, rule R192: Selective complement. -/
  | scm (b : BitVec 3) (m : Addr)
  /-- SSU, rule R194: Selective substitute. -/
  | ssu (b : BitVec 3) (m : Addr)
  /-- LDL, rule R195: Load logical. -/
  | ldl (b : BitVec 3) (m : Addr)
  /-- ADL, rule R196: Add logical. -/
  | adl (b : BitVec 3) (m : Addr)
  /-- SBL, rule R197: Subtract logical. -/
  | sbl (b : BitVec 3) (m : Addr)
  /-- STL, rule R198: Store logical. -/
  | stl (b : BitVec 3) (m : Addr)
  /-- ENI, rule R147: Enter index. -/
  | eni (b : BitVec 3) (y : Addr)
  /-- INI, rule R166: Increase index. -/
  | ini (b : BitVec 3) (y : Addr)
  /-- LIU, rule R139: Load index upper. -/
  | liu (b : BitVec 3) (m : Addr)
  /-- LIL, rule R140: Load index lower. -/
  | lil (b : BitVec 3) (m : Addr)
  /-- ISK, rule R167: Index skip. -/
  | isk (b : BitVec 3) (y : Addr)
  /-- IJP, rule R246: Index jump. -/
  | ijp (b : BitVec 3) (m : Addr)
  /-- SIU, rule R141: Store index upper. -/
  | siu (b : BitVec 3) (m : Addr)
  /-- SIL, rule R142: Store index lower. -/
  | sil (b : BitVec 3) (m : Addr)
  /-- SAU, rule R143: Substitute address upper. -/
  | sau (b : BitVec 3) (m : Addr)
  /-- SAL, rule R144: Substitute address lower. -/
  | sal (b : BitVec 3) (m : Addr)
  /-- EQS, rule R231: Equality search. -/
  | eqs (b : BitVec 3) (m : Addr)
  /-- THS, rule R232: Threshold search. -/
  | ths (b : BitVec 3) (m : Addr)
  /-- MEQ, rule R233: Masked equality search. -/
  | meq (b : BitVec 3) (m : Addr)
  /-- MTH, rule R234: Masked threshold search. -/
  | mth (b : BitVec 3) (m : Addr)
  /-- RAD, rule R221: Replace add. -/
  | rad (b : BitVec 3) (m : Addr)
  /-- RSB, rule R222: Replace subtract. -/
  | rsb (b : BitVec 3) (m : Addr)
  /-- RAO, rule R223: Replace add one. -/
  | rao (b : BitVec 3) (m : Addr)
  /-- RSO, rule R224: Replace subtract one. -/
  | rso (b : BitVec 3) (m : Addr)
  /-- AJP, rule R242: A jump. -/
  | ajp (j : BitVec 2) (m : Addr)
  /-- ARJ, rule R243: A return jump. -/
  | arj (j : BitVec 2) (m : Addr)
  /-- QJP, rule R244: Q jump. -/
  | qjp (j : BitVec 2) (m : Addr)
  /-- QRJ, rule R245: Q return jump. -/
  | qrj (j : BitVec 2) (m : Addr)
  /-- SLJ, rule R247: Selective jump unconditional. -/
  | slj (m : Addr)
  /-- SJ1, rule R247: Selective jump on switch 1. -/
  | sj1 (m : Addr)
  /-- SJ2, rule R247: Selective jump on switch 2. -/
  | sj2 (m : Addr)
  /-- SJ3, rule R247: Selective jump on switch 3. -/
  | sj3 (m : Addr)
  /-- RTJ, rule R248: Selective return jump unconditional. -/
  | rtj (m : Addr)
  /-- RJ1, rule R248: Selective return jump on switch 1. -/
  | rj1 (m : Addr)
  /-- RJ2, rule R248: Selective return jump on switch 2. -/
  | rj2 (m : Addr)
  /-- RJ3, rule R248: Selective return jump on switch 3. -/
  | rj3 (m : Addr)
  /-- SLS, rule R249: Selective stop unconditional. -/
  | sls (m : Addr)
  /-- SS1, rule R249: Selective stop on switch 1. -/
  | ss1 (m : Addr)
  /-- SS2, rule R249: Selective stop on switch 2. -/
  | ss2 (m : Addr)
  /-- SS3, rule R249: Selective stop on switch 3. -/
  | ss3 (m : Addr)
  /-- SRJ, rule R250: Selective stop, return jump unconditional. -/
  | srj (m : Addr)
  /-- SR1, rule R250: Selective stop, return jump on switch 1. -/
  | sr1 (m : Addr)
  /-- SR2, rule R250: Selective stop, return jump on switch 2. -/
  | sr2 (m : Addr)
  /-- SR3, rule R250: Selective stop, return jump on switch 3. -/
  | sr3 (m : Addr)
  /-- ILL26, rule R106: Illegal code 26: Category III. -/
  | ill26 (rest : BitVec 18)
  /-- ILL27, rule R106: Illegal code 27: Category III. -/
  | ill27 (rest : BitVec 18)
  /-- INF, rule R265: Internal function. -/
  | inf (y : Addr)
  /-- AUG, rule R280: Augment. -/
  | aug (y : Addr)
  /-- CIS, rule R278: Copy interrupt status; `y` is not used. -/
  | cis (y : Addr)
  /-- SEN, rule R277: Internal sense. -/
  | sen (y : Addr)
  /-- CPR, rule R279: Copy product register; `y` is not used. -/
  | cpr (y : Addr)
  /-- EUB, rule R285: Enter upper bound. -/
  | eub (y : Addr)
  /-- ELB, rule R286: Enter lower bound. -/
  | elb (y : Addr)
  /-- UNDEF62, rule R107: Code 62, which appears in no table. -/
  | undef62 (rest : BitVec 18)
  /-- ILL777, rule R106: Illegal code 77.7: Category III. -/
  | ill777 (rest : BitVec 15)
  /-- CONN, rule R310: Connect. -/
  | conn (n : Addr) (x : BitVec 3) (c : Byte12)
  /-- EXTF, rule R311: External function. -/
  | extf (n : Addr) (x : BitVec 3) (c : Byte12)
  /-- BEGR, rule R312: Begin read. -/
  | begr (n : Addr) (x : BitVec 3) (m : Addr)
  /-- BEGW, rule R313: Begin write. -/
  | begw (n : Addr) (x : BitVec 3) (m : Addr)
  /-- COPY, rule R315: Copy status; `n` and `m` are bits it does not use. -/
  | copy (n : Addr) (x : BitVec 3) (m : Addr)
  /-- CLCH, rule R316: Clear channel; `n` and `m` are bits it does not use. -/
  | clch (n : Addr) (x : BitVec 3) (m : Addr)
  /-- CCWD, rule R317: Change control word; `n` and `m` are bits it does not use. -/
  | ccwd (n : Addr) (x : BitVec 3) (m : Addr)
  /-- ILL747, rule R106: Illegal code 74.7: Category III. -/
  | ill747 (rest : BitVec 39)
  /-- LDC, rule R260: Load character. -/
  | ldc (b v : BitVec 3) (m : Addr)
  /-- STC, rule R261: Store character. -/
  | stc (b v : BitVec 3) (m : Addr)
  deriving DecidableEq, Repr

end Sys2Proof
end

