-- ==== Sys2Proof/Decode.lean ====
section
/-! DEFINITION. Reading an instruction from the bits of a program step, by the formats of rule R91 to rule R95 and the
opcode map of rule R105, and the encoder that writes those bits. -/

namespace Sys2Proof

/-- Why no instruction can be read: the encodings the source neither defines nor calls illegal (rule R107). -/
inductive DecodeError where
  /-- f = 00 with another pattern than IAQ or ATI (rule R107 (b)). -/
  | undefinedZero (w : HalfWord)
  /-- f = 63 in the upper position with another pattern than LDC or STC (rule R107 (c)). -/
  | undefinedCharacter (w : Word)
  /-- f = 63 or f = 74 in the lower position (rule R97, rule R107 (d)). -/
  | longInLowerHalf (w : HalfWord)
  /-- A Class III word with a nonzero unused field (rule R93, rule R107 (e)). -/
  | unusedFieldSet (w : Word)
  deriving DecidableEq, Repr

/-- What reading a half or a whole program step gives. -/
inductive Decoded where
  | ok (i : Instr)
  | error (e : DecodeError)
  deriving DecidableEq, Repr

/-- The bits of one instruction: half a program step, or all of it (rule R96). -/
inductive Code where
  | half (w : HalfWord)
  | full (w : Word)
  deriving DecidableEq, Repr

/-- f = 00: only the patterns 00 7 00554 and 00 7 4054b are defined (rule R95). -/
def decodeZero (w : HalfWord) : Decoded :=
  if w = 0o00700554 then .ok .iaq
  else if w.extractLsb' 3 21 = 0o0074054 then .ok (.ati (w.extractLsb' 0 3))
  else .error (.undefinedZero w)

/-- f = 75: j selects SLJ, SJ1 to SJ3, RTJ, RJ1 to RJ3 (rule R247, rule R248). -/
def selectiveJump (j : BitVec 3) (a : Addr) : Instr :=
  match j with
  | 0 => .slj a
  | 1 => .sj1 a
  | 2 => .sj2 a
  | 3 => .sj3 a
  | 4 => .rtj a
  | 5 => .rj1 a
  | 6 => .rj2 a
  | 7 => .rj3 a

/-- f = 76: j selects SLS, SS1 to SS3, SRJ, SR1 to SR3 (rule R249, rule R250). -/
def selectiveStop (j : BitVec 3) (a : Addr) : Instr :=
  match j with
  | 0 => .sls a
  | 1 => .ss1 a
  | 2 => .ss2 a
  | 3 => .ss3 a
  | 4 => .srj a
  | 5 => .sr1 a
  | 6 => .sr2 a
  | 7 => .sr3 a

/-- f = 77: the sub-function digit of the Class II format (rule R92). -/
def classTwo (j : BitVec 3) (a : Addr) : Instr :=
  match j with
  | 0 => .inf a
  | 1 => .aug a
  | 2 => .cis a
  | 3 => .sen a
  | 4 => .cpr a
  | 5 => .eub a
  | 6 => .elb a
  | 7 => .ill777 a

/-- A 24-bit instruction that is not a long code: Class I and Class II (rule R91, rule R92, rule R105). -/
def decodeHalf (w : HalfWord) : Decoded :=
  let b : BitVec 3 := w.extractLsb' 15 3
  let j : BitVec 2 := w.extractLsb' 15 2
  let m : Addr := w.extractLsb' 0 15
  match (w.extractLsb' 18 6).toNat with
  | 0o00 => decodeZero w
  | 0o01 => .ok (.ars b m)
  | 0o02 => .ok (.qrs b m)
  | 0o03 => .ok (.lrs b m)
  | 0o04 => .ok (.enq b m)
  | 0o05 => .ok (.als b m)
  | 0o06 => .ok (.qls b m)
  | 0o07 => .ok (.lls b m)
  | 0o10 => .ok (.ena b m)
  | 0o11 => .ok (.ina b m)
  | 0o12 => .ok (.lda b m)
  | 0o13 => .ok (.lac b m)
  | 0o14 => .ok (.add b m)
  | 0o15 => .ok (.sub b m)
  | 0o16 => .ok (.ldq b m)
  | 0o17 => .ok (.lqc b m)
  | 0o20 => .ok (.sta b m)
  | 0o21 => .ok (.stq b m)
  | 0o22 => if w.getLsbD 17 then .ok (.arj j m) else .ok (.ajp j m)
  | 0o23 => if w.getLsbD 17 then .ok (.qrj j m) else .ok (.qjp j m)
  | 0o24 => .ok (.mui b m)
  | 0o25 => .ok (.dvi b m)
  | 0o26 => .ok (.ill26 (w.extractLsb' 0 18))
  | 0o27 => .ok (.ill27 (w.extractLsb' 0 18))
  | 0o30 => .ok (.fad b m)
  | 0o31 => .ok (.fsb b m)
  | 0o32 => .ok (.fmu b m)
  | 0o33 => .ok (.fdv b m)
  | 0o34 => .ok (.sca b m)
  | 0o35 => .ok (.scq b m)
  | 0o36 => .ok (.ssk b m)
  | 0o37 => .ok (.ssh b m)
  | 0o40 => .ok (.sst b m)
  | 0o41 => .ok (.scl b m)
  | 0o42 => .ok (.scm b m)
  | 0o43 => .ok (.ssu b m)
  | 0o44 => .ok (.ldl b m)
  | 0o45 => .ok (.adl b m)
  | 0o46 => .ok (.sbl b m)
  | 0o47 => .ok (.stl b m)
  | 0o50 => .ok (.eni b m)
  | 0o51 => .ok (.ini b m)
  | 0o52 => .ok (.liu b m)
  | 0o53 => .ok (.lil b m)
  | 0o54 => .ok (.isk b m)
  | 0o55 => .ok (.ijp b m)
  | 0o56 => .ok (.siu b m)
  | 0o57 => .ok (.sil b m)
  | 0o60 => .ok (.sau b m)
  | 0o61 => .ok (.sal b m)
  | 0o62 => .ok (.undef62 (w.extractLsb' 0 18))
  | 0o64 => .ok (.eqs b m)
  | 0o65 => .ok (.ths b m)
  | 0o66 => .ok (.meq b m)
  | 0o67 => .ok (.mth b m)
  | 0o70 => .ok (.rad b m)
  | 0o71 => .ok (.rsb b m)
  | 0o72 => .ok (.rao b m)
  | 0o73 => .ok (.rso b m)
  | 0o75 => .ok (selectiveJump b m)
  | 0o76 => .ok (selectiveStop b m)
  | 0o77 => .ok (classTwo b m)
  | _ => .error (.longInLowerHalf w)

/-- f = 74 in the upper position: Class III (rule R93); 74.7 is illegal whatever its other bits (rule R106). -/
def decodeClassThree (u : Word) : Decoded :=
  let n : Addr := u.extractLsb' 24 15
  let x : BitVec 3 := u.extractLsb' 18 3
  let c : Byte12 := u.extractLsb' 0 12
  let m : Addr := u.extractLsb' 0 15
  let unusedZero : Bool := decide (u.extractLsb' 21 3 = 0#3) && decide (u.extractLsb' 15 3 = 0#3)
  let codeOk : Bool := unusedZero && decide (u.extractLsb' 12 3 = 0#3)
  match (u.extractLsb' 39 3).toNat with
  | 0 => if codeOk then .ok (.conn n x c) else .error (.unusedFieldSet u)
  | 1 => if codeOk then .ok (.extf n x c) else .error (.unusedFieldSet u)
  | 2 => if unusedZero then .ok (.begr n x m) else .error (.unusedFieldSet u)
  | 3 => if unusedZero then .ok (.begw n x m) else .error (.unusedFieldSet u)
  | 4 => if unusedZero then .ok (.copy n x m) else .error (.unusedFieldSet u)
  | 5 => if unusedZero then .ok (.clch n x m) else .error (.unusedFieldSet u)
  | 6 => if unusedZero then .ok (.ccwd n x m) else .error (.unusedFieldSet u)
  | _ => .ok (.ill747 (u.extractLsb' 0 39))

/-- f = 63 in the upper position: LDC "63 b v0006 50 0 m" and STC "63 b v0006 50 5 m" (rule R94). -/
def decodeCharacter (u : Word) : Decoded :=
  let b : BitVec 3 := u.extractLsb' 39 3
  let v : BitVec 3 := u.extractLsb' 36 3
  let m : Addr := u.extractLsb' 0 15
  if u.extractLsb' 15 21 = 0o0006500#21 then .ok (.ldc b v m)
  else if u.extractLsb' 15 21 = 0o0006505#21 then .ok (.stc b v m)
  else .error (.undefinedCharacter u)

/-- The instruction begun at the upper half of the program step u (rule R96). -/
def decodeUpper (u : Word) : Decoded :=
  match (u.extractLsb' 42 6).toNat with
  | 0o74 => decodeClassThree u
  | 0o63 => decodeCharacter u
  | _ => decodeHalf (u.extractLsb' 24 24)

/-- The instruction in the lower half of the program step u (rule R97). -/
def decodeLower (u : Word) : Decoded := decodeHalf (u.extractLsb' 0 24)

/-- The program step that holds a code at its upper half, zeros below a 24-bit one. -/
def Code.upperStep : Code → Word
  | .half w => w ++ 0#24
  | .full w => w

/-- The instruction a code stands for when it is begun in the upper position. -/
def decode (c : Code) : Decoded := decodeUpper c.upperStep

/-- The Class I layout f, b, address (rule R91), which Class II shares with s in the place of b (rule R92). -/
def format1 (f : BitVec 6) (b : BitVec 3) (a : Addr) : HalfWord := f ++ b ++ a

/-- The Class III layout 74, s, n, 0 x, 0, m (rule R93). -/
def format3 (s : BitVec 3) (n : Addr) (x : BitVec 3) (m : Addr) : Word :=
  0o74#6 ++ s ++ n ++ 0#3 ++ x ++ 0#3 ++ m

/-- The layout of LDC and STC, 63 b v 0006 50 d m (rule R94). -/
def format4 (b v d : BitVec 3) (m : Addr) : Word := 0o63#6 ++ b ++ v ++ 0o0006#12 ++ 0o50#6 ++ d ++ m

/-- The bits of an instruction (rule R91 to rule R95, rule R105). -/
def encode : Instr → Code
  | .iaq => .half 0o00700554
  | .ati b => .half (0o0074054#21 ++ b)
  | .ars b a => .half (format1 0o01 b a)
  | .qrs b a => .half (format1 0o02 b a)
  | .lrs b a => .half (format1 0o03 b a)
  | .enq b a => .half (format1 0o04 b a)
  | .als b a => .half (format1 0o05 b a)
  | .qls b a => .half (format1 0o06 b a)
  | .lls b a => .half (format1 0o07 b a)
  | .ena b a => .half (format1 0o10 b a)
  | .ina b a => .half (format1 0o11 b a)
  | .lda b a => .half (format1 0o12 b a)
  | .lac b a => .half (format1 0o13 b a)
  | .add b a => .half (format1 0o14 b a)
  | .sub b a => .half (format1 0o15 b a)
  | .ldq b a => .half (format1 0o16 b a)
  | .lqc b a => .half (format1 0o17 b a)
  | .sta b a => .half (format1 0o20 b a)
  | .stq b a => .half (format1 0o21 b a)
  | .mui b a => .half (format1 0o24 b a)
  | .dvi b a => .half (format1 0o25 b a)
  | .fad b a => .half (format1 0o30 b a)
  | .fsb b a => .half (format1 0o31 b a)
  | .fmu b a => .half (format1 0o32 b a)
  | .fdv b a => .half (format1 0o33 b a)
  | .sca b a => .half (format1 0o34 b a)
  | .scq b a => .half (format1 0o35 b a)
  | .ssk b a => .half (format1 0o36 b a)
  | .ssh b a => .half (format1 0o37 b a)
  | .sst b a => .half (format1 0o40 b a)
  | .scl b a => .half (format1 0o41 b a)
  | .scm b a => .half (format1 0o42 b a)
  | .ssu b a => .half (format1 0o43 b a)
  | .ldl b a => .half (format1 0o44 b a)
  | .adl b a => .half (format1 0o45 b a)
  | .sbl b a => .half (format1 0o46 b a)
  | .stl b a => .half (format1 0o47 b a)
  | .eni b a => .half (format1 0o50 b a)
  | .ini b a => .half (format1 0o51 b a)
  | .liu b a => .half (format1 0o52 b a)
  | .lil b a => .half (format1 0o53 b a)
  | .isk b a => .half (format1 0o54 b a)
  | .ijp b a => .half (format1 0o55 b a)
  | .siu b a => .half (format1 0o56 b a)
  | .sil b a => .half (format1 0o57 b a)
  | .sau b a => .half (format1 0o60 b a)
  | .sal b a => .half (format1 0o61 b a)
  | .eqs b a => .half (format1 0o64 b a)
  | .ths b a => .half (format1 0o65 b a)
  | .meq b a => .half (format1 0o66 b a)
  | .mth b a => .half (format1 0o67 b a)
  | .rad b a => .half (format1 0o70 b a)
  | .rsb b a => .half (format1 0o71 b a)
  | .rao b a => .half (format1 0o72 b a)
  | .rso b a => .half (format1 0o73 b a)
  | .ajp j m => .half (format1 0o22 (0#1 ++ j) m)
  | .arj j m => .half (format1 0o22 (1#1 ++ j) m)
  | .qjp j m => .half (format1 0o23 (0#1 ++ j) m)
  | .qrj j m => .half (format1 0o23 (1#1 ++ j) m)
  | .slj m => .half (format1 0o75 0 m)
  | .sj1 m => .half (format1 0o75 1 m)
  | .sj2 m => .half (format1 0o75 2 m)
  | .sj3 m => .half (format1 0o75 3 m)
  | .rtj m => .half (format1 0o75 4 m)
  | .rj1 m => .half (format1 0o75 5 m)
  | .rj2 m => .half (format1 0o75 6 m)
  | .rj3 m => .half (format1 0o75 7 m)
  | .sls m => .half (format1 0o76 0 m)
  | .ss1 m => .half (format1 0o76 1 m)
  | .ss2 m => .half (format1 0o76 2 m)
  | .ss3 m => .half (format1 0o76 3 m)
  | .srj m => .half (format1 0o76 4 m)
  | .sr1 m => .half (format1 0o76 5 m)
  | .sr2 m => .half (format1 0o76 6 m)
  | .sr3 m => .half (format1 0o76 7 m)
  | .ill26 r => .half (0o26#6 ++ r)
  | .ill27 r => .half (0o27#6 ++ r)
  | .inf y => .half (format1 0o77 0 y)
  | .aug y => .half (format1 0o77 1 y)
  | .cis y => .half (format1 0o77 2 y)
  | .sen y => .half (format1 0o77 3 y)
  | .cpr y => .half (format1 0o77 4 y)
  | .eub y => .half (format1 0o77 5 y)
  | .elb y => .half (format1 0o77 6 y)
  | .undef62 r => .half (0o62#6 ++ r)
  | .ill777 y => .half (format1 0o77 7 y)
  | .conn n x c => .full (format3 0 n x (0#3 ++ c))
  | .extf n x c => .full (format3 1 n x (0#3 ++ c))
  | .begr n x m => .full (format3 2 n x m)
  | .begw n x m => .full (format3 3 n x m)
  | .copy n x m => .full (format3 4 n x m)
  | .clch n x m => .full (format3 5 n x m)
  | .ccwd n x m => .full (format3 6 n x m)
  | .ill747 r => .full (0o747#9 ++ r)
  | .ldc b v m => .full (format4 b v 0 m)
  | .stc b v m => .full (format4 b v 5 m)

/-- The instruction the decoder reads from the bits w of an opcode table row of nbits bits: a 24-bit row stands at the
upper half of a program step whose lower half is zero, a 48-bit row is the program step. -/
def tableStep (nbits w : Nat) : Word :=
  if nbits ≤ 24 then BitVec.ofNat 24 w ++ 0#24 else BitVec.ofNat 48 w

def decodeTableWord (nbits w : Nat) : Option Instr :=
  match decodeUpper (tableStep nbits w) with
  | .ok i => some i
  | .error _ => none

end Sys2Proof
end

