-- ==== Sys2Proof/Machine/State.lean ====
section
/-! DEFINITION. The state of the machine: everything the spec gives it (rule R20 to rule R43, rule R60, rule R300 to
rule R304), the faults and refusals, and the state right after reset. -/

namespace Sys2Proof.Machine

/-- Why a run ends with a fault. -/
inductive Fault where
  /-- Raised by the Emergency Off switch: power is removed and the run is over (rule R485). Safe: the machine does
  nothing afterwards. -/
  | emergencyOff
  deriving DecidableEq, Repr

/-- Why the model has no step. -/
inductive Refusal where
  /-- Raised by `exec` for an instruction whose meaning is not written yet. Safe. -/
  | notModelled (mnemonic : String)
  /-- Raised by UNDEF62: code 62 is in no table (file 93, U1). Safe. -/
  | undefinedCode62
  /-- Raised by a step whose bits no rule defines (rule R107 (b) to (e); file 93, U3 to U6). Safe. -/
  | undefinedEncoding (e : DecodeError)
  /-- Raised by ATI with index designator 0 or 7 (file 93, U2). Safe. -/
  | undefinedIndex
  /-- Raised by INF with a code that is not in its table (file 93, U7). Safe. -/
  | undefinedFunction (y : Addr)
  /-- Raised by SEN with a code that is not in its table (file 93, U7). Safe. -/
  | undefinedSense (y : Addr)
  /-- Raised by LDC and STC with v = 0 or 7 or a selector that is not in the table (file 93, U8). Safe. -/
  | undefinedSelector
  /-- Raised by a Class III instruction, and by Auto Load, whose channel is not installed (file 93, U6). Safe. -/
  | channelNotInstalled
  /-- Raised by a reference to storage that a 16,384-word machine does not have (rule R64; file 93, U13). Safe. -/
  | absentStorage
  /-- Raised at the end of the upper instruction of word 00007 or 000ff, reached with its Mode flip-flop set, that was
  no taken normal jump (rule R446, rule R452; file 93, U15). Safe. -/
  | undefinedReturn
  /-- Raised by CONN and Auto Load when two equipments of the channel are set to the number named (file 93, U17).
  Safe. -/
  | duplicateEquipment
  deriving DecidableEq, Repr

/-- The six index registers B1 to B6 (rule R23). -/
structure IndexRegs where
  b1 : Addr := 0
  b2 : Addr := 0
  b3 : Addr := 0
  b4 : Addr := 0
  b5 : Addr := 0
  b6 : Addr := 0
  deriving DecidableEq, Repr

/-- The Category I Lockout, Mode and Exit flip-flops (rule R32 to rule R34). -/
structure CategoryI where
  lockout : Bool := false
  mode : Bool := false
  /-- Set: the return is to a lower instruction. -/
  exit : Bool := false
  deriving DecidableEq, Repr

/-- The Category II Mode and Exit flip-flops and the entry word awaited, 00030 + addr (rule R35 to rule R37). -/
structure CategoryII where
  mode : Bool := false
  exit : Bool := false
  addr : BitVec 2 := 0
  deriving DecidableEq, Repr

/-- Why the computer is stopped (rule R39). -/
inductive StopReason where
  /-- After an internal master clear, before it is started (rule R480, rule R482). -/
  | masterClear
  /-- The System Active switch went from On to Off (rule R483). -/
  | systemInactive
  /-- A selective stop; its jump, a return jump if `ret`, is made to `m` on Go (rule R249, rule R250), and the computer
  then stops if the System Active switch has gone Off meanwhile (`off`; rule R483). -/
  | sls (ret : Bool) (m : Addr) (off : Bool)
  /-- The step at P was read with bad parity (rule R456). -/
  | instructionParity
  deriving DecidableEq, Repr

/-- The run state (rule R39, rule R486). -/
inductive Run where
  | running
  | stopped (why : StopReason)
  /-- An instruction that never ends: an endless indirect chain (rule R101; file 93, U12). -/
  | hung
  /-- Auto-load is reading a record on channel x (rule R488). If a clear ends that Read, the computer stays so until the
  operator acts (assumption 17). -/
  | loading (x : Fin 4)
  /-- The record is in; the computer's next action is to begin at `AUTOLOAD_ENTRY` (rule R488). -/
  | loaded
  deriving DecidableEq, Repr

/-- The model's own: a return from an interrupt under way (rule R446, rule R452). -/
structure Return where
  /-- The half its jump is to. -/
  half : Half
  /-- The step began with the bounds checks suspended in the Category I routine it ends (rule R462; assumption 9). -/
  unchecked : Bool
  deriving DecidableEq, Repr

/-- One input/output channel and its equipments (rule R42, rule R300 to rule R304). Its I/O Parity Error bit is
Interrupt register bit 20 + x (rule R330). -/
structure Channel where
  /-- Word Count register WC[x]. -/
  wc : Addr := 0
  /-- Address register AD[x]. -/
  ad : Addr := 0
  /-- Active flag ACT[x]. -/
  act : Bool := false
  dir : Direction := .read
  /-- CONNECTED[x]: the connect code last accepted. -/
  connected : Option Byte12 := none
  /-- The bytes of the word being assembled, in the order received: fewer than four (rule R319). -/
  asm : List Byte12 := []
  /-- The bytes of the word being sent that are still to be accepted (rule R320). -/
  out : List Byte12 := []
  /-- Started with word count 0 under WC_ZERO_AT_START = 2^15 words, and no word moved yet (rule R321). -/
  fullCount : Bool := false
  /-- The environment makes the next code, or the next input byte, arrive with bad parity (rule R331). -/
  codeFault : Bool := false
  dataFault : Bool := false
  /-- A transmission parity condition that a Clear Channel or an external master clear must clear (rule R331). -/
  blocked : Bool := false
  /-- The operation was begun while that condition stood: nothing moves (rule R331). -/
  stalled : Bool := false
  equips : List Equipment := []
  deriving DecidableEq, Repr

/-- The four possible channels; channel x is installed when x < NCHAN (rule R300). -/
structure Channels where
  c0 : Channel := {}
  c1 : Channel := {}
  c2 : Channel := {}
  c3 : Channel := {}
  deriving DecidableEq, Repr

/-- The console switches (rule R43, rule R470 to rule R475). The momentary ones are events. -/
structure Console where
  /-- Selective Jump switches 1, 2, 3. -/
  jump1 : Bool := false
  jump2 : Bool := false
  jump3 : Bool := false
  /-- Stop switches 1, 2, 3. -/
  stop1 : Bool := false
  stop2 : Bool := false
  stop3 : Bool := false
  /-- Maintenance Mode switch, `MAINT_MODE`. -/
  maint : Bool := false
  systemActive : Bool := true
  /-- The auto-load channel, equipment (a connect code) and function switches. -/
  autoChannel : Fin 4 := 0
  autoConnect : Byte12 := 0
  autoFunction : Byte12 := 0
  deriving DecidableEq, Repr

/-- What another agent does between two instructions of the computer (rule R7, rule R74): the clock, the operator,
the channels, the equipments, and storage and transmission faults. -/
inductive Event where
  /-- The power line (rule R436). -/
  | tick
  /-- Momentary switches (rule R471, rule R472, rule R474, rule R475). -/
  | manualInterrupt
  | go
  | restart
  | autoLoad
  | endOfRecordSwitch
  | emergencyOff
  /-- The console master clears (rule R480, rule R481, rule R486). -/
  | internalMasterClear
  | externalMasterClear
  /-- Locking switches (rule R470, rule R473, rule R474, rule R335). -/
  | systemActive (on : Bool)
  | maintenanceMode (on : Bool)
  | jumpSwitch (j : Fin 3) (on : Bool)
  | stopSwitch (j : Fin 3) (on : Bool)
  | autoLoadSwitches (x : Fin 4) (connect function : Byte12)
  /-- A manual start at an address (rule R487). -/
  | manualStart (a : Addr)
  /-- A storage fault flips these of the 51 bits of a word (rule R63). -/
  | corrupt (a : Addr) (flips : Cell)
  /-- An active channel does what it can without its equipment: it fetches an output word, or ends (rule R320). -/
  | channelCycle (x : Fin 4)
  /-- The connected equipment answers the next output byte, which it may have found with bad parity (rule R331). -/
  | acceptByte (x : Fin 4) (badParity : Bool)
  /-- The next connect or function code, or input byte, of channel x arrives with bad parity (rule R331). -/
  | codeFault (x : Fin 4)
  | dataFault (x : Fin 4)
  /-- Something happens to the i-th equipment of channel x (rule R351). -/
  | equipment (x : Fin 4) (i : Nat) (h : Happening)
  /-- The Equipment Number switch of the i-th equipment of channel x is set (rule R475). -/
  | equipmentNumber (x : Fin 4) (i : Nat) (n : BitVec 3)
  deriving DecidableEq, Repr

/-- Core storage: the words that differ from what an unlisted address reads as, by rising address (rule R60; the
canonical form is `Memory.wf`). A cell is the 51-bit word, the spec's smallest addressable unit (assumption 6). -/
abbrev Memory := List (Nat × Cell)

/-- The state of the machine. -/
structure State where
  /-- A register (rule R20). -/
  a : Word
  /-- Q register (rule R21). -/
  q : Word
  /-- U, the program control register (rule R25). -/
  u : Word
  /-- B1 to B6 (rule R23). -/
  b : IndexRegs
  /-- P, the program address counter (rule R24). -/
  p : Addr
  /-- H, the half to be executed next (rule R26). -/
  h : Half
  /-- The flip-flops of the Interrupt register; bits 30 to 33 are no flip-flops (rule R27, rule R435). -/
  irLatch : Word
  /-- IM, the Interrupt Mask register (rule R28). -/
  im : Word
  /-- BL and BU, the bounds registers (rule R30). -/
  bl : BitVec 8
  bu : BitVec 8
  /-- Interrupt Active flip-flop (rule R31). -/
  active : Bool
  catI : CategoryI
  catII : CategoryII
  /-- The time-interrupt selection latch (rule R41). -/
  timeLatch : Bool
  /-- Run state (rule R39). -/
  run : Run
  /-- An AUG has been executed in the upper half of this step, with these t2, t1, t0 (rule R40). -/
  aug : Option (BitVec 3)
  /-- The model's own: the upper instruction of 00007 or 000ff being executed is this return. -/
  ret : Option Return
  channels : Channels
  console : Console
  mem : Memory
  /-- What the installation fixes (rule R6). -/
  params : Params
  /-- The model's own: how many free values have been drawn. -/
  fresh : Nat
  /-- The model's own: what the other agents will do, each after so many more actions of the computer. -/
  inputs : List (Nat × Event)
  /-- The model's own: what they will do inside instructions, each after so many more gaps between storage references
  of the computer (rule R74, rule R76). -/
  between : List (Nat × Event)
  deriving DecidableEq, Repr

/-- The machine after the System Active switch has gone from Off to On (rule R482): both master clears, and the
computer stopped. The registers whose value no rule gives are zero, storage lists nothing, and channel 0 has the
console typewriter as its equipment 0: DESIGN CHOICE (assumption 1). -/
def State.reset : State where
  a := 0
  q := 0
  u := 0
  b := {}
  p := 0
  h := .upper
  irLatch := 0
  im := 0
  bl := 0
  bu := 0
  active := false
  catI := {}
  catII := {}
  timeLatch := false
  run := .stopped .masterClear
  aug := none
  ret := none
  channels := { c0 := { equips := [{ number := 0, device := .typewriter {} }] } }
  console := {}
  mem := []
  params := .basic
  fresh := 0
  inputs := []
  between := []

end Sys2Proof.Machine
end

