-- ==== Sys2Proof/Machine/Memory.lean ====
section
/-! DEFINITION. Core storage: the 51-bit cell with its parity (rule R62), the address and function portions of a word
(rule R61), and reading and writing one word of a memory in canonical form. -/

namespace Sys2Proof.Machine

/-- The parity bit that makes the number of ones of a portion odd (rule R62). -/
def oddParity {n : Nat} (x : BitVec n) : BitVec 1 :=
  BitVec.ofBool !((List.range n).foldl (fun b i => b ^^ x.getLsbD i) false)

/-- The lower address, bits 14-00, and the upper address, bits 38-24 (rule R61). -/
def lowerAddress (v : Word) : Addr := v.extractLsb' 0 15
def upperAddress (v : Word) : Addr := v.extractLsb' 24 15

/-- The function portion, bits 47-39 and 23-15 (rule R61). -/
def functionPortion (v : Word) : BitVec 18 := v.extractLsb' 39 9 ++ v.extractLsb' 15 9

/-- A word as it enters storage, with P3, P2, P1 above it (rule R62). -/
def cellOf (v : Word) : Cell :=
  oddParity (functionPortion v) ++ oddParity (upperAddress v) ++ oddParity (lowerAddress v) ++ v

/-- The 48 data bits of a storage word. -/
def dataOf (c : Cell) : Word := c.extractLsb' 0 48

/-- Some parity bit disagrees with its portion (rule R63, rule R455). -/
def badParity (c : Cell) : Bool := cellOf (dataOf c) != c

/-- The word with its upper, or its lower, address portion replaced and that portion's parity regenerated (rule R68). -/
def replaceUpper (v : Addr) (c : Cell) : Cell :=
  c.extractLsb' 50 1 ++ oddParity v ++ c.extractLsb' 48 1 ++ c.extractLsb' 39 9 ++ v ++ c.extractLsb' 0 24
def replaceLower (v : Addr) (c : Cell) : Cell :=
  c.extractLsb' 49 2 ++ oddParity v ++ c.extractLsb' 15 33 ++ v

/-- What an address not listed reads as: a word of zeros with good parity. DESIGN CHOICE (assumption 3): no rule says
what storage holds before it is written. -/
def emptyCell : Cell := cellOf 0

/-- The word at an address. -/
def Memory.read : Memory → Nat → Cell
  | [], _ => emptyCell
  | (k, c) :: m, a => if k = a then c else Memory.read m a

/-- The memory without the entries of an address. -/
def Memory.erase : Memory → Nat → Memory
  | [], _ => []
  | (k, c) :: m, a => if k = a then Memory.erase m a else (k, c) :: Memory.erase m a

/-- An entry put in its place. -/
def Memory.insert : Memory → Nat → Cell → Memory
  | [], a, c => [(a, c)]
  | (k, d) :: m, a, c => if a < k then (a, c) :: (k, d) :: m else (k, d) :: Memory.insert m a c

/-- The word at an address replaced; writing what an unlisted address reads as removes the entry. -/
def Memory.write (m : Memory) (a : Nat) (c : Cell) : Memory :=
  if c = emptyCell then Memory.erase m a else Memory.insert (Memory.erase m a) a c

/-- The addresses of a list rise strictly from above `low`. -/
def Memory.risesFrom : Nat → Memory → Bool
  | _, [] => true
  | low, (k, c) :: m => decide (low ≤ k) && decide (k < 32768) && decide (c ≠ emptyCell) && Memory.risesFrom (k + 1) m

/-- The canonical form: addresses strictly rising and below 2^15, no entry equal to what an unlisted address reads as. -/
def Memory.wf (m : Memory) : Bool := Memory.risesFrom 0 m

/-- The word at a storage address, and its data bits. -/
def State.cell (s : State) (a : Addr) : Cell := s.mem.read a.toNat
def State.word (s : State) (a : Addr) : Word := dataOf (s.cell a)

/-- The state with the word at an address replaced. -/
def State.setCell (s : State) (a : Addr) (c : Cell) : State := { s with mem := s.mem.write a.toNat c }

/-- The address exists: a 16,384-word machine has no address with bit 14 set (rule R64). -/
def State.present (s : State) (a : Addr) : Bool := !(s.params.storage16K && a.getLsbD 14)

end Sys2Proof.Machine
end

