-- ==== Sys2Proof/Machine/Flags.lean ====
section
/-! DEFINITION. One's complement arithmetic and the conditions computed from it (rule R9 to rule R12), and the fault
bits of the Interrupt register (rule R430). -/

namespace Sys2Proof.Machine

/-- `oc_add_N`, the subtractive one's complement adder (rule R11). -/
def ocAdd {n : Nat} (x y : BitVec n) : BitVec n :=
  let s := x.toNat + y.toNat
  let r := if 2 ^ n - 1 < s then s - (2 ^ n - 1) else s
  if r = 2 ^ n - 1 ∧ ¬(x = BitVec.allOnes n ∧ y = BitVec.allOnes n) then 0 else BitVec.ofNat n r

/-- `val_N`, the signed integer of a one's complement pattern (rule R9). -/
def ocVal {n : Nat} (x : BitVec n) : Int := if x.msb then -((~~~x).toNat : Int) else (x.toNat : Int)

/-- The one's complement pattern of an integer in range: +0 for zero (rule R164, `oc48`). -/
def ocOf (n : Nat) (v : Int) : BitVec n := if v < 0 then ~~~(BitVec.ofNat n v.natAbs) else BitVec.ofNat n v.natAbs

/-- `ovf_add`: the operands' signs agree and the sum's does not (rule R12). -/
def ovfAdd (x y : Word) : Bool := (x.msb == y.msb) && ((ocAdd x y).msb != x.msb)

/-- Positive or negative zero. -/
def ocZero {n : Nat} (x : BitVec n) : Bool := decide (x = 0) || decide (x = BitVec.allOnes n)

/-- `mag`: the magnitude of a word (rule R281). -/
def mag (x : Word) : Word := if x.msb then ~~~x else x

/-- The condition j of AJP and QJP, and of ARJ and QRJ (rule R242). -/
def jumpCondition (j : BitVec 2) (x : Word) : Bool :=
  match j with
  | 0 => ocZero x
  | 1 => !ocZero x
  | 2 => !x.msb
  | 3 => x.msb

/-- Equality of EQS and MEQ: the two zeros are the same quantity (rule R231). -/
def sameQuantity (x a : Word) : Bool := decide (x = a) || (ocZero x && ocZero a)

/-- The comparison of THS and MTH, in which +0 is greater than -0 (rule R232). -/
def greater (x a : Word) : Bool := decide (a.toInt < x.toInt)

/-- A word with one bit set, or clear. -/
def setBit (w : Word) (n : Nat) : Word := w ||| 1#48 <<< n
def clearBit (w : Word) (n : Nat) : Word := w &&& ~~~(1#48 <<< n)

/-- `fault(n)`: Interrupt register bit n becomes 1 and the instruction goes on (rule R430). -/
def State.fault (s : State) (n : Nat) : State := { s with irLatch := setBit s.irLatch n }

/-- A fault under a condition. -/
def State.faultIf (s : State) (c : Bool) (n : Nat) : State :=
  { s with irLatch := if c then setBit s.irLatch n else s.irLatch }

end Sys2Proof.Machine
end

