-- ==== Sys2Proof/Machine/Access.lean ====
section
/-! DEFINITION. The access to the registers that the computer and the channels share: sequencing of the parts of an
action, the index registers, the channels and the machines they share, the interrupt registers, the operand read and
the free values. -/

namespace Sys2Proof.Machine

/-- The outcome of part of an instruction. -/
abbrev Res (α : Type) := Host.Outcome α Fault Refusal

/-- Go on with what a part gives, unless it ended the step. -/
def andThen {α β : Type} (r : Res α) (f : α → Res β) : Res β :=
  match r with
  | .next x => f x
  | .fault x => .fault x
  | .refused x => .refused x

/-! ## Registers -/

/-- The index register a designator names; designators 0 and 7 name none and read as 0 (rule R23, rule R100). -/
def IndexRegs.get (r : IndexRegs) (b : BitVec 3) : Addr :=
  match b with
  | 1 => r.b1
  | 2 => r.b2
  | 3 => r.b3
  | 4 => r.b4
  | 5 => r.b5
  | 6 => r.b6
  | _ => 0

/-- An index register written; with designator 0 or 7 nothing is (rule R23, rule R111). -/
def IndexRegs.set (r : IndexRegs) (b : BitVec 3) (v : Addr) : IndexRegs :=
  match b with
  | 1 => { r with b1 := v }
  | 2 => { r with b2 := v }
  | 3 => { r with b3 := v }
  | 4 => { r with b4 := v }
  | 5 => { r with b5 := v }
  | 6 => { r with b6 := v }
  | _ => r

/-- The index register b of a state, and the state with it written. -/
def State.index (s : State) (b : BitVec 3) : Addr := s.b.get b
def State.setIndex (s : State) (b : BitVec 3) (v : Addr) : State := { s with b := s.b.set b v }

/-- Channel x of the four. -/
def Channels.get (cs : Channels) (x : Nat) : Channel :=
  match x with
  | 0 => cs.c0
  | 1 => cs.c1
  | 2 => cs.c2
  | _ => cs.c3

def Channels.set (cs : Channels) (x : Nat) (c : Channel) : Channels :=
  match x with
  | 0 => { cs with c0 := c }
  | 1 => { cs with c1 := c }
  | 2 => { cs with c2 := c }
  | _ => { cs with c3 := c }

def State.channel (s : State) (x : Nat) : Channel := s.channels.get x
def State.setChannel (s : State) (x : Nat) (c : Channel) : State := { s with channels := s.channels.set x c }

/-- The operation channel x is performing, if it moves at all (rule R302, rule R331). DESIGN CHOICE (assumption 11): while
it stands still under a transmission parity condition the equipments see none, so that a Busy line that asks for one, as
that of the card punch (rule R402), is 0. -/
def Channel.op (c : Channel) : Option Direction := if c.act && !c.stalled then some c.dir else none

/-- The other channels after the equipments of channel x have changed: the sides they have of the same machines follow
(rule R360, rule R377, rule R400, rule R409). -/
def Channel.follow (y : Nat) (src : List Equipment) (c : Channel) : Channel :=
  { c with equips := c.equips.map (equipmentFollow y src) }
def Channels.share (cs : Channels) (x : Nat) : Channels :=
  let f (y : Nat) (c : Channel) : Channel := if y = x then c else c.follow y (cs.get x).equips
  { c0 := f 0 cs.c0, c1 := f 1 cs.c1, c2 := f 2 cs.c2, c3 := f 3 cs.c3 }

/-- Channel x with its equipments changed. -/
def State.putChannel (s : State) (x : Nat) (c : Channel) : State :=
  { s with channels := (s.channels.set x c).share x }

/-! ## The interrupt registers -/

/-- Interrupt register bit 30 + x: some interrupt line of an installed channel is up (rule R435). -/
def State.externalLine (s : State) (x : Nat) : Word :=
  if x < s.params.nchan ∧ interruptLines x (s.channel x).equips ≠ 0 then 1#48 <<< (30 + x) else 0

def State.externalLines (s : State) : Word :=
  s.externalLine 0 ||| s.externalLine 1 ||| s.externalLine 2 ||| s.externalLine 3

/-- The positions of the flip-flops of the Interrupt register, and of its bits 30 to 33 (rule R27). -/
def latchedBits : Word := 0x7C00_00F0_3C3E
def externalBits : Word := 0x0003_C000_0000

/-- The Interrupt register IR: its flip-flops, and the external lines as they are now (rule R27, rule R435). -/
def State.ir (s : State) : Word := (s.irLatch &&& latchedBits) ||| s.externalLines

/-- The Product register (rule R29). -/
def State.product (s : State) : Word := s.ir &&& s.im

/-- The Interrupt Mask register can hold a one only where the Interrupt register has a condition (rule R28). -/
def maskBits : Word := latchedBits ||| externalBits

/-! ## Operand reads -/

/-- An operand read notes bad parity in IR bit 45; the word is used as read (rule R66, rule R455). -/
def State.noteParity (s : State) (a : Addr) : State := s.faultIf (badParity (s.cell a)) 45

/-- `MemRead`: an operand read, then the rest of the instruction (rule R66; absent: file 93, U13). -/
def withRead {α : Type} (s : State) (a : Addr) (rest : Word → State → Res α) : Res α :=
  if s.present a then rest (s.word a) (s.noteParity a) else .refused .absentStorage

/-! ## Free values -/

/-- The k-th free value from here on. -/
def State.free (s : State) (k : Nat) : Word := Config.freeWord (s.fresh + k)

/-- The state after n of them are drawn. -/
def State.drawn (s : State) (n : Nat) : State := { s with fresh := s.fresh + n }

end Sys2Proof.Machine
end

