-- ==== Sys2Proof/Machine/Channel.lean ====
section
/-! DEFINITION. The input/output channel as an agent: connecting, sending a function, starting, moving bytes and words,
ending and clearing (rule R300 to rule R335). -/

namespace Sys2Proof.Machine

/-- A word read by channel x: bad parity is an operand parity error and an I/O parity error (rule R314, rule R455). -/
def withChannelRead (s : State) (x : Nat) (a : Addr) (rest : Word → State → Res State) : Res State :=
  if s.present a then
    rest (s.word a) ((s.noteParity a).faultIf (badParity (s.cell a)) (20 + x))
  else .refused .absentStorage

/-- The equipments of channel x changed. -/
def State.setEquips (s : State) (x : Nat) (es : List Equipment) : State :=
  s.putChannel x { s.channel x with equips := es }

/-- A connect code is sent on channel x (rule R310, rule R331 case 2, rule R351): a code that arrives with bad parity
changes no connection and no Interrupt register bit, and the condition must be cleared before another code is answered.
DESIGN CHOICE (assumption 11): such a code, and one sent while the condition stands, leaves CONNECTED[x] and the
connection of every equipment as they were, so that COPY shows the same lines, where rule R310 makes CONNECTED none
without a response; and CONNECTED[x] is the code the last CONN was accepted with, also where a typewriter keeps its
connection beside it (`deviceClings`). -/
def connectChannel (s : State) (x : Nat) (c : Byte12) : Answer × State :=
  let ch := s.channel x
  if ch.blocked then (.silent, s)
  else if ch.codeFault then
    (.silent, s.setChannel x { ch with codeFault := false, blocked := true, equips := connectParity c ch.equips })
  else
    let r := connectAll x c ch.equips
    let connected := match r.1 with
      | .reply => some c
      | .silent => none
      | .reject => if r.2.any (·.connected) then ch.connected else none
    (r.1, s.putChannel x { ch with connected := connected, equips := r.2 })

/-- A function code is sent on channel x (rule R311, rule R331 case 1). DESIGN CHOICE (assumption 11): a code with bad
parity sets the I/O Parity Error bit whatever equipment is connected, a printer too, of which rule R363 says that "no
signals are returned". -/
def functionChannel (s : State) (x : Nat) (c : Byte12) : Answer × State :=
  let ch := s.channel x
  if ch.blocked || ch.connected.isNone then (.silent, s)
  else if ch.codeFault then (.silent, (s.setChannel x { ch with codeFault := false, blocked := true }).fault (20 + x))
  else
    let r := functionAll x (s.free 0) c ch.equips
    (r.1, (s.setEquips x r.2).drawn 1)

/-- Channel x becomes active with a control word in its registers (rule R312, rule R313, rule R318). While a transmission
parity condition stands uncleared the operation begins and moves nothing: "In order to initiate subsequent operation"
a clear must come first (rule R331; assumption 11). -/
def activate (s : State) (x : Nat) (dir : Direction) (wc ad : Addr) : State :=
  let ch := s.channel x
  s.putChannel x
    { ch with
      wc := wc
      ad := ad
      act := true
      dir := dir
      asm := []
      out := []
      fullCount := decide (wc = 0) && s.params.wcZeroFull
      stalled := ch.blocked
      equips := if ch.blocked then ch.equips else mapConnected (deviceBegin x dir) ch.equips }

/-- A Read or Write begins: the channel fetches its control word from m (rule R314, rule R318). -/
def startChannel (s : State) (x : Nat) (dir : Direction) (m : Addr) : Res State :=
  withChannelRead s x m fun cw s => .next (activate s x dir (upperAddress cw) (lowerAddress cw))

/-- What a Clear Channel, or an external master clear, does to channel x itself (rule R316): a word partly assembled is
lost. -/
def Channel.cleared (x : Nat) (k : ClearScope) (c : Channel) : Channel :=
  { c with
    wc := 0
    ad := 0
    act := false
    connected := none
    asm := []
    out := []
    fullCount := false
    blocked := false
    stalled := false
    equips := clearAll x c.op k c.equips }

/-- Clear Channel (rule R316), which is also one channel's part of an external master clear (rule R481). -/
def clearChannel (k : ClearScope) (s : State) (x : Nat) : State :=
  { s.putChannel x ((s.channel x).cleared x k) with irLatch := clearBit s.irLatch (20 + x) }

/-- Channel x goes from active to inactive: its bit is set if it is selected, or if it latches unmasked (rule R433). -/
def channelBecameInactive (s : State) (x : Nat) : State :=
  s.faultIf (s.im.getLsbD (10 + x) || s.params.latchUnmasked) (10 + x)

/-- `end_operation` (rule R321); one that ends an auto-load lets the computer start (rule R488). -/
def endOperation (s : State) (x : Nat) : State :=
  let ch := s.channel x
  let t := channelBecameInactive
    (s.putChannel x
      { ch with
        act := false
        asm := []
        out := []
        fullCount := false
        equips := mapConnected (deviceEnd x ch.dir) ch.equips }) x
  { t with run := match s.run with
      | .loading y => if y.val = x then .loaded else .loading y
      | r => r }

/-- The count is used up: the operation ends at the channel's next step (rule R317, rule R321). -/
def Channel.exhausted (c : Channel) : Bool := decide (c.wc = 0) && !c.fullCount

/-- The four bytes of a word, in the order received; under Reverse Assembly the first fills bits 11-00 (rule R73,
rule R380). -/
def assemble (reverse : Bool) (bytes : List Byte12) : Word :=
  let b (i : Nat) : Byte12 := bytes.getD i 0
  if reverse then b 3 ++ b 2 ++ b 1 ++ b 0 else b 0 ++ b 1 ++ b 2 ++ b 3

/-- The bytes of a word in the order they are sent (rule R73, rule R320). -/
def disassemble (w : Word) : List Byte12 :=
  [w.extractLsb' 36 12, w.extractLsb' 24 12, w.extractLsb' 12 12, w.extractLsb' 0 12]

/-- The Reverse Assembly signal of the connected equipment is up (rule R380). -/
def Channel.reverse (c : Channel) : Bool := c.equips.any fun e => e.connected && deviceReverse e.device

/-- An input word is stored and counted; channel stores are not bounds-checked (rule R319). -/
def storeInput (s : State) (x : Nat) (w : Word) : Res State :=
  let ch := s.channel x
  if s.present ch.ad then
    .next ((s.setCell ch.ad (cellOf w)).setChannel x
      { ch with ad := ch.ad + 1, wc := ch.wc - 1, asm := [], fullCount := false })
  else .refused .absentStorage

/-- A byte arrives on channel x (rule R319, rule R331 case 4). If CCWD has set the count to 0 the operation ends, and the
bytes of a word partly assembled are dropped with this one: DESIGN CHOICE (assumption 23), rule R317 only says that it
ends at the channel's next step. -/
def inputByte (s : State) (x : Nat) (b : Byte12) : Res State :=
  let ch := s.channel x
  if ch.op = some .read then
    if ch.exhausted then .next (endOperation s x)
    else
      let bytes := ch.asm ++ [b]
      let s := (s.setChannel x
        { ch with asm := bytes, dataFault := false, blocked := ch.blocked || ch.dataFault }).faultIf ch.dataFault (20 + x)
      if bytes.length < 4 then .next s
      else andThen (storeInput s x (assemble ch.reverse bytes)) fun s =>
        .next (if (s.channel x).wc = 0 then endOperation s x else s)
  else .next s

/-- End of Record on channel x (rule R321). A word partly assembled is discarded, or stored with its missing bytes
arbitrary: free values (file 93, U16). DESIGN CHOICE (assumption 23): so too where CCWD has set the count to 0 and the
channel has not come to its next step, which would drop that word: the count then goes on from 0 to 77777. -/
def endOfRecord (s : State) (x : Nat) : Res State :=
  let ch := s.channel x
  if ch.op = some .read then
    if ch.asm.isEmpty then .next (endOperation s x)
    else if (s.free 0).getLsbD 0 then .next (endOperation (s.drawn 2) x)
    else andThen (storeInput (s.drawn 2) x (assemble ch.reverse (ch.asm ++ disassemble (s.free 1)))) fun s =>
      .next (endOperation s x)
  else .next s

/-- What an active channel does without its equipment: it ends when the count is used up, and fetches the next output
word (rule R320, rule R321). -/
def channelCycle (s : State) (x : Nat) : Res State :=
  let ch := s.channel x
  if ch.op.isSome && ch.out.isEmpty then
    if ch.exhausted then .next (endOperation s x)
    else if ch.dir = .write then
      withChannelRead s x ch.ad fun w s =>
        .next (s.setChannel x
          { s.channel x with out := disassemble w, ad := ch.ad + 1, wc := ch.wc - 1, fullCount := false })
    else .next s
  else .next s

/-- Some connected equipment of channel x answers the next byte. -/
def Channel.taken (x : Nat) (c : Channel) : Bool := c.equips.any fun e => e.connected && deviceCanTake x e.device

/-- The connected equipment takes the next output byte (rule R320); a byte it finds with bad parity sets the I/O
Parity Error bit (rule R331 case 3). An equipment that does not answer leaves the channel active. -/
def acceptByte (s : State) (x : Nat) (bad : Bool) : Res State :=
  let ch := s.channel x
  match ch.out with
  | [] => .next s
  | b :: rest =>
    if ch.op = some .write ∧ ch.taken x then
      let s := (s.putChannel x
        { ch with out := rest, equips := mapConnected (deviceTake x rest.isEmpty bad b) ch.equips }).faultIf bad (20 + x)
      .next (if rest.isEmpty && ch.exhausted then endOperation s x else s)
    else .next s

/-- What an equipment sends reaches its channel. -/
def receive (x : Nat) : List Signal → State → Res State
  | [], s => .next s
  | .data b :: rest, s => andThen (inputByte s x b) (receive x rest)
  | .endOfRecord :: rest, s => andThen (endOfRecord s x) (receive x rest)

/-- Something happens to the i-th equipment of channel x (rule R351). -/
def equipmentEvent (s : State) (x i : Nat) (h : Happening) : Res State :=
  let ch := s.channel x
  match ch.equips[i]? with
  | none => .next s
  | some e =>
    let r := equipmentHappen x ch.op (s.free 0) h e
    receive x r.2 ((s.setEquips x (ch.equips.set i r.1)).drawn 1)

end Sys2Proof.Machine
end

