-- ==== Sys2Proof/Machine/Agents.lean ====
section
/-! DEFINITION. What the other agents do while the computer runs, between its instructions and between the storage
references of one: the clock, the operator's switches that act at once, the channels, the equipments, and faults of
storage and transmission (rule R74, rule R436, rule R437, rule R470 to rule R475). -/

namespace Sys2Proof.Machine

/-- The power-line tick (rule R436). -/
def tick (s : State) : State :=
  if s.im.getLsbD 44 && s.timeLatch then { s.fault 44 with timeLatch := false } else s

/-- The Manual Interrupt switch (rule R437). -/
def manualInterrupt (s : State) : State := s.faultIf (s.im.getLsbD 43 && s.active) 43

/-- A typewriter is connected to the channel and the Read and data signals are present (rule R356). -/
def Channel.typingIn (c : Channel) : Bool :=
  decide (c.op = some .read) && c.equips.any fun e =>
    e.connected && match e.device with
      | .typewriter d => d.on
      | _ => false

/-- The End-of-Record switch (rule R475): to the channel whose typewriter is typing in. -/
def endOfRecordSwitch (s : State) : Res State :=
  match (List.range s.params.nchan).find? fun x => (s.channel x).typingIn with
  | some x => endOfRecord s x
  | none => .next s

/-- A Selective Jump switch, or a Stop switch, set or released (rule R470, rule R474). -/
def Console.setJump (c : Console) (j : Fin 3) (on : Bool) : Console :=
  match j with
  | 0 => { c with jump1 := on }
  | 1 => { c with jump2 := on }
  | 2 => { c with jump3 := on }
def Console.setStop (c : Console) (j : Fin 3) (on : Bool) : Console :=
  match j with
  | 0 => { c with stop1 := on }
  | 1 => { c with stop2 := on }
  | 2 => { c with stop3 := on }

/-- With System Active and Maintenance Mode both off the other switches are locked out (rule R473, rule R483). -/
def State.switchesLive (s : State) : Bool := s.console.systemActive || s.console.maint

/-- The happenings that are switches of the console typewriter: On/Off, and its manual interrupt (rule R475). -/
def Happening.isSwitch : Happening → Device → Bool
  | .ready _, .typewriter _ | .manual, .typewriter _ => true
  | _, _ => false

/-- The happening h of the i-th equipment of channel x is such a switch, and so may be locked out (rule R473). -/
def State.switchOf (s : State) (x i : Nat) (h : Happening) : Bool :=
  match (s.channel x).equips[i]? with
  | some e => h.isSwitch e.device
  | none => false

/-- The i-th equipment of channel x is the console typewriter, whose Equipment Number switch is one of the console's
(rule R475). -/
def State.typewriterAt (s : State) (x i : Nat) : Bool :=
  match (s.channel x).equips[i]? with
  | some { device := .typewriter _, .. } => true
  | _ => false

/-- An action of the operator, if the switches are live. -/
def operate (s : State) (r : Res State) : Res State := if s.switchesLive then r else .next s

/-- An action of another agent that takes effect at once, even inside an instruction (rule R74, rule R440 (c)). The
others, which stop, start or clear the computer, wait for the end of the instruction (rule R483, rule R484). -/
def agentEvent (e : Event) (s : State) : Res State :=
  match e with
  | .tick => .next (tick s)
  | .manualInterrupt => operate s (.next (manualInterrupt s))
  | .endOfRecordSwitch => operate s (endOfRecordSwitch s)
  | .jumpSwitch j on => operate s (.next { s with console := s.console.setJump j on })
  | .stopSwitch j on => operate s (.next { s with console := s.console.setStop j on })
  | .corrupt a flips => if s.present a then .next (s.setCell a (s.cell a ^^^ flips)) else .next s
  | .channelCycle x => channelCycle s x.val
  | .acceptByte x bad => acceptByte s x.val bad
  | .codeFault x => .next (s.setChannel x.val { s.channel x.val with codeFault := true })
  | .dataFault x => .next (s.setChannel x.val { s.channel x.val with dataFault := true })
  | .equipment x i h =>
    if s.switchOf x.val i h then operate s (equipmentEvent s x.val i h) else equipmentEvent s x.val i h
  | .equipmentNumber x i n =>
    let set := .next (s.setEquips x.val ((s.channel x.val).equips.modify i fun e => { e with number := n }))
    if s.typewriterAt x.val i then operate s set else set
  | .go | .restart | .autoLoad | .emergencyOff | .internalMasterClear | .externalMasterClear | .systemActive _
  | .maintenanceMode _ | .autoLoadSwitches _ _ _ | .manualStart _ => .next { s with inputs := (0, e) :: s.inputs }

/-- The actions whose gap this is, in their order. -/
def gapFrom : List (Nat × Event) → State → Res State
  | [], s => .next { s with between := [] }
  | (0, e) :: rest, s => andThen (agentEvent e s) (gapFrom rest)
  | (n + 1, e) :: rest, s => .next { s with between := (n, e) :: rest }

/-- A gap between two storage references of the computer: any number of actions of other agents may fall in it
(rule R74). -/
def gap (s : State) : Res State := gapFrom s.between s

/-- After this many gaps no action is left. -/
def gapSpan : List (Nat × Event) → Nat
  | [] => 0
  | (n, _) :: rest => n + 1 + gapSpan rest

end Sys2Proof.Machine
end

