-- ==== Sys2Proof/Machine/Ops.lean ====
section
/-! DEFINITION. The shared operations of the meanings: bounds checking, storage writes, successors, jumps and return
jumps, and the entry of the three categories of interrupt with the return from them. -/

namespace Sys2Proof.Machine

/-! ## Bounds (rule R458) -/

/-- `checking_in_effect`: the condition under which EUB and ELB are illegal. -/
def State.checking (s : State) : Bool := s.active && s.im.getLsbD 42

/-- `checks_apply` (rule R462). -/
def State.checksApply (s : State) : Bool := s.checking && (s.params.boundsInInterrupt || !s.catI.mode)

/-- `in_bounds`: BL ≤ S < BU in the upper eight bits, no upper bound when BU = 0. -/
def State.inBounds (s : State) (a : Addr) : Bool :=
  let top : BitVec 8 := a.extractLsb' 7 8
  decide (s.bl ≤ top) && (decide (s.bu = 0) || decide (top < s.bu))

/-- A write, jump or instruction read at this address is no violation (rule R459). -/
def State.allowed (s : State) (a : Addr) : Bool := !s.checksApply || s.inBounds a

/-- A violation sets the Out of Bounds bit (rule R460). -/
def State.violation (s : State) : State := s.fault 42

/-! ## Storage references -/

/-- A checked storage write: out of bounds it is not made and IR bit 42 is set (rule R67, rule R68, rule R459). -/
def storeCell (s : State) (a : Addr) (f : Cell → Cell) : Res State :=
  if s.allowed a then
    if s.present a then .next (s.setCell a (f (s.cell a))) else .refused .absentStorage
  else .next s.violation

/-- `MemWrite` (rule R67). -/
def storeWord (s : State) (a : Addr) (v : Word) : Res State := storeCell s a fun _ => cellOf v

/-- `MemWriteBits` of the upper, and of the lower, address portion (rule R68). -/
def storeUpper (s : State) (a v : Addr) : Res State := storeCell s a (replaceUpper v)
def storeLower (s : State) (a v : Addr) : Res State := storeCell s a (replaceLower v)

/-! ## Successors -/

/-- `next`: the lower instruction after an upper one, the upper one of P + 1 after a lower one (rule R10). -/
def State.advance (s : State) : State :=
  { s with
    p := match s.h with
      | .upper => s.p
      | .lower => s.p + 1
    h := match s.h with
      | .upper => .lower
      | .lower => .upper }

/-- The upper instruction of P + 1: after a 48-bit instruction (rule R96), and where a skip leads (rule R108). -/
def State.nextStep (s : State) : State := { s with p := s.p + 1, h := .upper }

/-- `skip` (rule R108): from the lower position it is `next`. -/
def State.skip (s : State) : State := s.nextStep

/-- `skip` or `next`. -/
def State.skipIf (s : State) (c : Bool) : State := if c then s.skip else s.advance

/-- U is loaded with the word at P; bad parity sets IR bit 46 and stops the computer (rule R65, rule R456). -/
def loadU (s : State) : Res State :=
  if s.present s.p then
    let s' := { s with u := s.word s.p }
    if badParity (s.cell s.p) then .next { s'.fault 46 with run := .stopped .instructionParity } else .next s'
  else .refused .absentStorage

/-- The sequence goes on at a half of the step at m; entering it at its lower half loads U (rule R14, rule R25). -/
def enterAt (s : State) (m : Addr) (half : Half) : Res State :=
  match half with
  | .upper => .next { s with p := m, h := .upper }
  | .lower => loadU { s with p := m, h := .lower }

/-- A taken normal jump (rule R240). In the upper instruction of word 00007 or 000ff it is the return from a Category
I or II interrupt, and goes to the half its Exit flip-flop chose (rule R446, rule R452). -/
def takeJump (s : State) (m : Addr) : Res State :=
  match s.ret with
  | none => enterAt s m .upper
  | some r => enterAt { s with ret := none } m r.half

/-- A jump to this address is no violation; that of a return from a Category I routine in which the checks were
suspended is none wherever it leads, and an upper instruction read there is checked (rule R459, rule R461;
assumption 9). -/
def State.jumpAllowed (s : State) (m : Addr) : Bool :=
  s.allowed m || match s.ret with
    | some r => r.unchecked
    | none => false

/-- `pc <- m` with its bounds check: out of bounds the jump is not made and the sequence goes on (rule R251). -/
def jumpElse (s : State) (m : Addr) (onward : State → State) : Res State :=
  if s.jumpAllowed m then takeJump s m else .next (onward s.violation)

/-- `pc <- m` of a 24-bit instruction. -/
def jump (s : State) (m : Addr) : Res State := jumpElse s m State.advance

/-- The reject jump of a Class III instruction (rule R306). -/
def rejectJump (s : State) (n : Addr) : Res State := jumpElse s n State.nextStep

/-- The return jump itself: an address is stored in bits 38-24 of word m, and its lower instruction is next; unchecked
(rule R241, rule R459). Other agents may act between the store and the reading of the word into U (rule R65,
rule R74). -/
def enterThrough (s : State) (m stored : Addr) : Res State :=
  if s.present m then andThen (gap (s.setCell m (replaceUpper stored (s.cell m)))) fun s => enterAt s m .lower
  else .refused .absentStorage

/-- `return_jump(m)` (rule R241, rule R251): out of bounds neither the store nor the jump is made. -/
def returnJump (s : State) (m : Addr) : Res State :=
  if s.allowed m then enterThrough s m (s.p + 1) else .next s.violation.advance

/-! ## Interrupt entry and return -/

/-- Category III (rule R453): P + 1 goes to word 00020, whichever half held the illegal code. -/
def raiseCategoryIII (s : State) : Res State := enterThrough { s with aug := none } 0o00020 (s.p + 1)

/-- Category II for operation code 30 + ff (rule R450): the successor is stored in word 00030 + ff. -/
def raiseCategoryII (s : State) (ff : BitVec 2) : Res State :=
  let after := s.advance
  enterThrough
    { s with aug := none, catII := { mode := true, exit := decide (after.h = .lower), addr := ff } }
    (0o00030 + (0#13 ++ ff)) after.p

/-- Category I (rule R442): (P, H) is the successor; P goes to word 00007 and H to the Exit flip-flop. -/
def enterCategoryI (s : State) : Res State :=
  enterThrough { s with catI := { lockout := true, mode := true, exit := decide (s.h = .lower) } } 0o00007 s.p

/-- A Product register bit asks for a Category I entry now (rule R440). -/
def State.interruptPending (s : State) : Bool :=
  s.active && !s.catI.lockout && s.aug.isNone && decide (s.product ≠ 0)

/-- The sampling that ends an instruction (rule R440). -/
def sample (s : State) : Res State := if s.interruptPending then enterCategoryI s else .next s

/-- The half an Exit flip-flop chooses. -/
def exitHalf (exit : Bool) : Half := if exit then .lower else .upper

/-- At the upper instruction of word 00007 with Category I Mode set, or of the awaited word 000ff with Category II
Mode set, the return begins (rule R446, rule R452). The jump that ends a Category I routine run without bounds checks
(rule R462) is itself one of the routine's, unchecked: DESIGN CHOICE (assumption 9). -/
def returnTrigger (s : State) : State :=
  if s.p = 0o00007 ∧ s.catI.mode then
    { s with
      catI := { s.catI with lockout := false, mode := false }
      ret := some { half := exitHalf s.catI.exit, unchecked := !s.params.boundsInInterrupt } }
  else if s.p = 0o00030 + (0#13 ++ s.catII.addr) ∧ s.catII.mode then
    { s with catII := { s.catII with mode := false }, ret := some { half := exitHalf s.catII.exit, unchecked := false } }
  else s

end Sys2Proof.Machine
end

