-- ==== Sys2Proof/WellFormed.lean ====
section
/-! DEFINITION. The instructions the spec gives a meaning: which operand values are listed (rule R95, rule R107,
rule R260, rule R265, rule R277). Every other operand fits its field by its type. -/

namespace Sys2Proof

/-- The codes of INF, as rules R266 to R276 list them. -/
def infCodes : List Nat :=
  [0o00000, 0o00001, 0o00010, 0o00011, 0o00020, 0o00021, 0o00030, 0o00031] ++
  [0o00110, 0o00111, 0o00120, 0o00121] ++
  [0o00200, 0o00201, 0o00210, 0o00211, 0o00220, 0o00221, 0o00230, 0o00231] ++
  [0o00300, 0o00301, 0o00310, 0o00311, 0o00320, 0o00321, 0o00330, 0o00331] ++
  [0o00400, 0o00410, 0o00411, 0o00412, 0o00420, 0o00421, 0o00422, 0o00430, 0o00431, 0o00432] ++
  [0o00440, 0o00441, 0o00442, 0o00450, 0o00451, 0o00452] ++
  [0o00500, 0o00501, 0o00510, 0o00511, 0o00520, 0o00521, 0o00522, 0o00530, 0o00531, 0o00532, 0o00540, 0o00541] ++
  [0o00600, 0o00601, 0o00602]

/-- The codes of SEN, as the table of rule R277 lists them. -/
def senCodes : List Nat :=
  [0o00000, 0o00001, 0o00010, 0o00011, 0o00020, 0o00021, 0o00030, 0o00031] ++
  [0o00110, 0o00111, 0o00120, 0o00121, 0o00210, 0o00211, 0o00220, 0o00221]

/-- A designator that names an index register, 1 to 6 (rule R23). -/
def namesIndex (b : BitVec 3) : Bool := decide (b ≠ 0) && decide (b ≠ 7)

/-- A channel number, 0 to 3 (rule R93). -/
def namesChannel (x : BitVec 3) : Bool := decide (x.toNat < 4)

/-- The operands are ones some rule describes. -/
def Instr.wellFormed : Instr → Bool
  | .ati b => namesIndex b
  | .inf y => infCodes.contains y.toNat
  | .sen y => senCodes.contains y.toNat
  | .conn _ x _ | .extf _ x _ => namesChannel x
  | .begr _ x _ | .begw _ x _ | .copy _ x _ | .clch _ x _ | .ccwd _ x _ => namesChannel x
  | .ldc _ v _ | .stc _ v _ => namesIndex v
  | .undef62 _ => false
  | .iaq | .ars _ _ | .qrs _ _ | .lrs _ _ | .enq _ _ | .als _ _ | .qls _ _ | .lls _ _ | .ena _ _ | .ina _ _ => true
  | .lda _ _ | .lac _ _ | .add _ _ | .sub _ _ | .ldq _ _ | .lqc _ _ | .sta _ _ | .stq _ _ | .mui _ _ | .dvi _ _ => true
  | .fad _ _ | .fsb _ _ | .fmu _ _ | .fdv _ _ | .sca _ _ | .scq _ _ | .ssk _ _ | .ssh _ _ => true
  | .sst _ _ | .scl _ _ | .scm _ _ | .ssu _ _ | .ldl _ _ | .adl _ _ | .sbl _ _ | .stl _ _ => true
  | .eni _ _ | .ini _ _ | .liu _ _ | .lil _ _ | .isk _ _ | .ijp _ _ | .siu _ _ | .sil _ _ | .sau _ _ | .sal _ _ => true
  | .eqs _ _ | .ths _ _ | .meq _ _ | .mth _ _ | .rad _ _ | .rsb _ _ | .rao _ _ | .rso _ _ => true
  | .ajp _ _ | .arj _ _ | .qjp _ _ | .qrj _ _ => true
  | .slj _ | .sj1 _ | .sj2 _ | .sj3 _ | .rtj _ | .rj1 _ | .rj2 _ | .rj3 _ => true
  | .sls _ | .ss1 _ | .ss2 _ | .ss3 _ | .srj _ | .sr1 _ | .sr2 _ | .sr3 _ => true
  | .ill26 _ | .ill27 _ | .ill777 _ | .ill747 _ => true
  | .aug _ | .cis _ | .cpr _ | .eub _ | .elb _ => true

end Sys2Proof
end

