-- ==== Sys2Proof/Machine/Operands.lean ====
section
/-! DEFINITION. The operand of an instruction: indirect addressing, address modification, the operand read, and what
the designators of AUG make of it (rule R98 to rule R104, rule R281). -/

namespace Sys2Proof.Machine

/-- What indirect addressing gives. -/
inductive Resolved where
  /-- The final index designator, not 7, the execution address, and the state after the reads. -/
  | done (b : BitVec 3) (m : Addr) (s : State)
  /-- A chain that never ends (file 93, U12). -/
  | endless (s : State)

/-- `resolve`: read word m and take the new address and designator from its bits 17-00, while the designator is 7
(rule R101); other agents may act between the reads (rule R74). -/
def resolveFrom : Nat → BitVec 3 → Addr → State → Res Resolved
  | 0, _, _, s => .next (.endless s)
  | n + 1, b, m, s =>
    if b = 7 then
      withRead s m fun w s => andThen (gap s) fun s => resolveFrom n (w.extractLsb' 15 3) (lowerAddress w) s
    else .next (.done b m s)

/-- A chain that, with no other agent left to change it, has read as many words as storage has without ending has met a
word twice and never ends. -/
def resolve (b : BitVec 3) (m : Addr) (s : State) : Res Resolved :=
  if b = 7 then resolveFrom (gapSpan s.between + 32769) b m s else .next (.done b m s)

/-- The execution address modified by the index register b (rule R99, rule R100). -/
def modified (s : State) (b : BitVec 3) (m : Addr) : Addr := if b = 0 then m else ocAdd m (s.index b)

/-- An instruction with indirect addressing and no modification: its m, y or k and its b (rule R102). An endless
chain leaves it uncompleted for ever. -/
def withResolved (s : State) (b : BitVec 3) (m : Addr) (rest : BitVec 3 → Addr → State → Res State) : Res State :=
  andThen (resolve b m s) fun r =>
    match r with
    | .done b' m' s' => rest b' m' s'
    | .endless s' => .next { s' with run := .hung }

/-- An instruction with indirect addressing and modification: its M, Y or K (rule R102). -/
def withEffective (s : State) (b : BitVec 3) (m : Addr) (rest : Addr → State → Res State) : Res State :=
  withResolved s b m fun b' m' s' => rest (modified s' b' m') s'

/-- An instruction that reads the operand at M. -/
def withOperand (s : State) (b : BitVec 3) (m : Addr) (rest : Word → State → Res State) : Res State :=
  withEffective s b m fun e s' => withRead s' e rest

/-- The 15-bit operand Y with its sign extended (rule R104 (a)). -/
def extendSign (y : Addr) : Word := y.signExtend 48

/-- The augment designators t2, t1, t0 that apply to the instruction: those an AUG in the upper half of the step left
for its lower half (rule R40, rule R281). -/
def State.augment (s : State) : BitVec 3 :=
  match s.h, s.aug with
  | .lower, some t => t
  | _, _ => 0

/-- "Use magnitude of operand" where t2 is 1 (rule R281). -/
def State.operand (s : State) (x : Word) : Word := if s.augment.getLsbD 2 then mag x else x

end Sys2Proof.Machine
end

