-- ==== Sys2Proof/Machine/Search.lean ====
section
/-! DEFINITION. The storage searches (rule R230 to rule R234). -/

namespace Sys2Proof.Machine

/-- "Reduce one count" of an index quantity (rule R230, rule R246). -/
def countDown (v : Addr) : Addr := ocAdd v 0o77776

/-- The search of a list from its last word down: the count in B[b] is reduced, word m + B[b] is examined, and the
search ends at a hit (a skip) or when the count is zero (rule R230). The count was n, so n words end it.
Other agents may act between its reads. -/
def searchList (hit : Word → State → Bool) (b : BitVec 3) (m : Addr) : Nat → State → Res State
  | 0, s => .next s.advance
  | n + 1, s =>
    let s := s.setIndex b (countDown (s.index b))
    withRead s (ocAdd m (s.index b)) fun x s =>
      if hit x s then .next s.skip
      else if s.index b = 0 then .next s.advance
      else andThen (gap s) (searchList hit b m n)

/-- The common frame of the searches (rule R230). -/
def search (s : State) (b : BitVec 3) (m : Addr) (hit : Word → State → Bool) : Res State :=
  withResolved s b m fun b m s =>
    if b = 0 then withRead s m fun x s => .next (s.skipIf (hit x s))
    else searchList hit b m (s.index b).toNat s

/-- EQS (rule R231). -/
def execEqs (b : BitVec 3) (m : Addr) (s : State) : Res State := search s b m fun x s => sameQuantity x s.a

/-- THS (rule R232). -/
def execThs (b : BitVec 3) (m : Addr) (s : State) : Res State := search s b m fun x s => greater x s.a

/-- MEQ (rule R233). -/
def execMeq (b : BitVec 3) (m : Addr) (s : State) : Res State := search s b m fun x s => sameQuantity (s.q &&& x) s.a

/-- MTH (rule R234). -/
def execMth (b : BitVec 3) (m : Addr) (s : State) : Res State := search s b m fun x s => greater (s.q &&& x) s.a

end Sys2Proof.Machine
end

