-- ==== Sys2Proof/Machine/Jumps.lean ====
section
/-! DEFINITION. Jumps and stops (rule R240 to rule R252). -/

namespace Sys2Proof.Machine

/-- A conditional jump, and a conditional return jump; without the condition, `next` (rule R240). -/
def jumpIf (c : Bool) (s : State) (m : Addr) : Res State := if c then jump s m else .next s.advance
def returnJumpIf (c : Bool) (s : State) (m : Addr) : Res State := if c then returnJump s m else .next s.advance

/-- AJP (rule R242). -/
def execAjp (j : BitVec 2) (m : Addr) (s : State) : Res State := jumpIf (jumpCondition j s.a) s m

/-- ARJ (rule R243). -/
def execArj (j : BitVec 2) (m : Addr) (s : State) : Res State := returnJumpIf (jumpCondition j s.a) s m

/-- QJP (rule R244). -/
def execQjp (j : BitVec 2) (m : Addr) (s : State) : Res State := jumpIf (jumpCondition j s.q) s m

/-- QRJ (rule R245). -/
def execQrj (j : BitVec 2) (m : Addr) (s : State) : Res State := returnJumpIf (jumpCondition j s.q) s m

/-- IJP (rule R246): the count is reduced even if the jump is then refused by the bounds check. -/
def execIjp (b : BitVec 3) (m : Addr) (s : State) : Res State :=
  withResolved s b m fun b m s =>
    if s.index b = 0 then .next s.advance else jump (s.setIndex b (countDown (s.index b))) m

/-- SLJ (rule R247). -/
def execSlj (m : Addr) (s : State) : Res State := jump s m

/-- SJ1 (rule R247, rule R470). -/
def execSj1 (m : Addr) (s : State) : Res State := jumpIf s.console.jump1 s m

/-- SJ2 (rule R247, rule R470). -/
def execSj2 (m : Addr) (s : State) : Res State := jumpIf s.console.jump2 s m

/-- SJ3 (rule R247, rule R470). -/
def execSj3 (m : Addr) (s : State) : Res State := jumpIf s.console.jump3 s m

/-- RTJ (rule R248). -/
def execRtj (m : Addr) (s : State) : Res State := returnJump s m

/-- RJ1 (rule R248). -/
def execRj1 (m : Addr) (s : State) : Res State := returnJumpIf s.console.jump1 s m

/-- RJ2 (rule R248). -/
def execRj2 (m : Addr) (s : State) : Res State := returnJumpIf s.console.jump2 s m

/-- RJ3 (rule R248). -/
def execRj3 (m : Addr) (s : State) : Res State := returnJumpIf s.console.jump3 s m

/-- The jump of a selective stop: it is made whether or not the stop was (rule R249, rule R250). -/
def stopJump (ret : Bool) (s : State) (m : Addr) : Res State := if ret then returnJump s m else jump s m

/-- A selective stop: P and H stay, and the jump is made on Go (rule R249, rule R252). -/
def stopIf (c ret : Bool) (s : State) (m : Addr) : Res State :=
  if c then .next { s with run := .stopped (.sls ret m false) } else stopJump ret s m

/-- Stop switch 1, 2, 3 is set and live: only in maintenance mode (rule R249, rule R474). -/
def State.stop1 (s : State) : Bool := s.console.maint && s.console.stop1
def State.stop2 (s : State) : Bool := s.console.maint && s.console.stop2
def State.stop3 (s : State) : Bool := s.console.maint && s.console.stop3

/-- SLS (rule R249). -/
def execSls (m : Addr) (s : State) : Res State := stopIf true false s m

/-- SS1 (rule R249). -/
def execSs1 (m : Addr) (s : State) : Res State := stopIf s.stop1 false s m

/-- SS2 (rule R249). -/
def execSs2 (m : Addr) (s : State) : Res State := stopIf s.stop2 false s m

/-- SS3 (rule R249). -/
def execSs3 (m : Addr) (s : State) : Res State := stopIf s.stop3 false s m

/-- SRJ (rule R250). -/
def execSrj (m : Addr) (s : State) : Res State := stopIf true true s m

/-- SR1 (rule R250). -/
def execSr1 (m : Addr) (s : State) : Res State := stopIf s.stop1 true s m

/-- SR2 (rule R250). -/
def execSr2 (m : Addr) (s : State) : Res State := stopIf s.stop2 true s m

/-- SR3 (rule R250). -/
def execSr3 (m : Addr) (s : State) : Res State := stopIf s.stop3 true s m

end Sys2Proof.Machine
end

