-- ==== Sys2Proof/Machine/Sequence.lean ====
section
/-! DEFINITION. What surrounds an instruction: the reading of a program step, and the end of an instruction
(rule R14, rule R440, rule R461). -/

namespace Sys2Proof.Machine

/-- `InstrRead` at the upper instruction of a step (rule R461, rule R456): out of bounds it only sets IR bit 42. The
augment designators of an earlier step are gone (rule R40). -/
def fetch (s : State) : Res State :=
  let s := { s with aug := none }
  loadU (if s.allowed s.p then s else s.violation)

/-- The run state lets the next instruction be executed. -/
def State.isRunning (s : State) : Bool := decide (s.run = .running)

/-- A selective stop, and a computer that hangs, have not ended their instruction. -/
def State.unfinished (s : State) : Bool :=
  match s.run with
  | .stopped (.sls _ _ _) => true
  | .hung => true
  | _ => false

/-- The end of an instruction executed in half `half` (rule R14 (5), rule R440): the augment designators end with the
lower instruction (rule R40); a return word's upper instruction must have been a taken normal jump (rule R446,
rule R452; file 93, U15); a computer that has stopped is not sampled (rule R440 (e)). What other agents
do before the sampling it sees (rule R440 (c)). -/
def finish (half : Half) (s : State) : Res State :=
  let s := if half = .lower then { s with aug := none } else s
  if s.ret.isSome && !s.unfinished then .refused .undefinedReturn
  else if s.isRunning then andThen (gap s) sample
  else .next s

end Sys2Proof.Machine
end

