-- ==== Sys2Proof/Machine/Console.lean ====
section
/-! DEFINITION. The console: the master clears, Restart, Auto Load, Go and the System Active switch, any action of
another agent (rule R470 to rule R475, rule R480 to rule R488). -/

namespace Sys2Proof.Machine

/-- The Interrupt register bits an internal master clear clears: 01-05, 20-23, 42, 43, 45, 46 (rule R480). -/
def masterCleared : Word := 0x6C00_00F0_003E

/-- Internal master clear (rule R480): everything no rule names is unspecified, a free value (file 93, U14). -/
def internalMasterClear (s : State) : State :=
  let f (k i n : Nat) : BitVec n := (s.free k).extractLsb' i n
  let flag (i : Nat) : Bool := (s.free 8).getLsbD i
  { s.drawn 9 with
    a := s.free 0
    q := s.free 1
    u := s.free 2
    b := { b1 := f 3 0 15, b2 := f 3 15 15, b3 := f 3 30 15, b4 := f 4 0 15, b5 := f 4 15 15, b6 := f 4 30 15 }
    p := f 5 0 15
    h := if (s.free 5).getLsbD 15 then .lower else .upper
    irLatch := s.free 6 &&& (latchedBits &&& ~~~masterCleared)
    im := s.free 7 &&& maskBits
    active := flag 0
    catI := { lockout := flag 1, mode := flag 2, exit := flag 3 }
    catII := { mode := flag 4, exit := flag 5, addr := f 8 6 2 }
    timeLatch := flag 8
    aug := if flag 9 then some (f 8 10 3) else none
    ret := none
    run := .stopped .masterClear }

/-- One channel's part of an external master clear, if it is installed. -/
def clearInstalled (s : State) (x : Nat) : State := if x < s.params.nchan then clearChannel .external s x else s

/-- External master clear (rule R481). One that falls into an auto-load cuts its channel off, so that no end of operation
follows and the computer stays in the run state `loading` until the operator acts: DESIGN CHOICE (assumption 17), no rule
says what becomes of the auto-load. -/
def externalMasterClear (s : State) : State :=
  clearInstalled (clearInstalled (clearInstalled (clearInstalled s 0) 1) 2) 3

/-- The Restart switch (rule R484). Pressed during a selective stop it drops the jump that the stop has still to make,
and the address stored is that of the stop itself, whose step has not been completed: DESIGN CHOICE (assumption 33). -/
def restart (s : State) : Res State :=
  enterThrough { externalMasterClear s with active := false, aug := none, ret := none, run := .running } 0 s.p

/-- The Auto Load switch (rule R335, rule R488): the channel, equipment and function of the switches, then a Read of
40000 octal words with no control word fetched. Two equipments set to the number of the switches are not modelled by
the spec (file 93, U17). -/
def autoLoad (s : State) : Res State :=
  let s := externalMasterClear (internalMasterClear s)
  let x := s.console.autoChannel
  if x.val < s.params.nchan then
    if 1 < countNumber (s.console.autoConnect.extractLsb' 9 3) (s.channel x.val).equips then .refused .duplicateEquipment
    else
      let s := (connectChannel s x.val s.console.autoConnect).2
      let s := (functionChannel s x.val s.console.autoFunction).2
      .next { activate s x.val .read 0o40000 s.params.autoloadStart with run := .loading x }
  else .refused .channelNotInstalled

/-- After auto-load the computer starts at 00000: its upper instruction, or as Restart does (rule R488). The augment
designators, which the internal master clear has left with any value (file 93, U14), do not augment its first
instruction: DESIGN CHOICE (assumption 17), after rule R493, in which a return jump enters the lower half unaugmented. -/
def autoLoadEntry (s : State) : Res State :=
  let s := { s with aug := none, run := .running }
  match s.params.autoloadEntry with
  | .upper => .next { s with p := 0, h := .upper }
  | .lower => enterThrough s 0 s.p

/-- The System Active switch has gone Off while a selective stop stood: the instruction it ends was the last. -/
def stopIfOff (off : Bool) (s : State) : State := if off then { s with run := .stopped .systemInactive } else s

/-- The Go switch (rule R252, rule R456): a selective stop makes its jump, which ends the instruction; after an
instruction parity stop the sampling comes first, and else the word is read again. It starts nothing else. -/
def go (s : State) : Res State :=
  let r := { s with run := .running }
  match s.run with
  | .stopped (.sls ret m off) => andThen (andThen (stopJump ret r m) (finish s.h)) fun t => .next (stopIfOff off t)
  | .stopped .instructionParity =>
    if r.interruptPending then enterCategoryI r
    else match s.h with
      | .upper => .next r
      | .lower => loadU r
  | _ => .next s

/-- The run state after the System Active switch has gone Off (rule R483: stopped "at the end of the current
instruction"). A selective stop has not ended its instruction (rule R440 (e)): Go still makes its jump, and then the
computer is stopped; nor has an endless indirect chain. A stop of any other kind becomes this one, so that Go starts
nothing. DESIGN CHOICE (assumption 28): no rule says what the switch does to a computer that is stopped already. -/
def Run.inactive : Run → Run
  | .stopped (.sls ret m _) => .stopped (.sls ret m true)
  | .hung => .hung
  | .running | .loading _ | .loaded | .stopped .masterClear | .stopped .systemInactive
  | .stopped .instructionParity => .stopped .systemInactive

/-- The System Active switch (rule R482, rule R483). -/
def systemActiveSwitch (s : State) (on : Bool) : State :=
  if on = s.console.systemActive then s
  else
    let s := { s with console := { s.console with systemActive := on } }
    if on then externalMasterClear (internalMasterClear s) else { s with run := s.run.inactive }

/-- A manual start (rule R487). -/
def manualStart (s : State) (a : Addr) : State := { s with p := a, h := .upper, aug := none, ret := none, run := .running }

/-- What an action of another agent does between two instructions (rule R7, rule R74). -/
def deliver (e : Event) (s : State) : Res State :=
  match e with
  | .go => operate s (go s)
  | .restart => operate s (restart s)
  | .autoLoad => operate s (autoLoad s)
  | .emergencyOff => .fault .emergencyOff
  | .internalMasterClear => operate s (.next (internalMasterClear s))
  | .externalMasterClear => operate s (.next (externalMasterClear s))
  | .systemActive on => .next (systemActiveSwitch s on)
  | .maintenanceMode on => .next { s with console := { s.console with maint := on } }
  | .autoLoadSwitches x c f =>
    operate s (.next { s with console := { s.console with autoChannel := x, autoConnect := c, autoFunction := f } })
  | .manualStart a => operate s (.next (manualStart s a))
  | .tick | .manualInterrupt | .endOfRecordSwitch | .jumpSwitch _ _ | .stopSwitch _ _ | .corrupt _ _
  | .channelCycle _ | .acceptByte _ _ | .codeFault _ | .dataFault _ | .equipment _ _ _ | .equipmentNumber _ _ _ =>
    agentEvent e s

end Sys2Proof.Machine
end

