-- ==== Sys2Proof/Machine/Character.lean ====
section
/-! DEFINITION. Character handling (rule R260, rule R261). -/

namespace Sys2Proof.Machine

/-- The register v and the selector it holds are ones the table lists: 0, 6, 12, …, 42 (rule R260; file 93, U8). -/
def selectorListed (s : State) (v : BitVec 3) : Bool :=
  namesIndex v && decide ((s.index v).toNat % 6 = 0) && decide ((s.index v).toNat ≤ 42)

/-- The character whose lowest bit is n, and the word with it replaced (rule R260, rule R261). -/
def characterAt (x : Word) (n : Nat) : BitVec 6 := x.extractLsb' n 6
def withCharacter (x : Word) (n : Nat) (c : BitVec 6) : Word :=
  (x &&& ~~~(0o77#48 <<< n)) ||| (c.setWidth 48 <<< n)

/-- LDC (rule R260). -/
def execLdc (b v : BitVec 3) (m : Addr) (s : State) : Res State :=
  if selectorListed s v then
    withOperand s b m fun x s => .next { s with a := (characterAt x (s.index v).toNat).setWidth 48 }.nextStep
  else .refused .undefinedSelector

/-- STC (rule R261): a read and a checked write of the same word. -/
def execStc (b v : BitVec 3) (m : Addr) (s : State) : Res State :=
  if selectorListed s v then
    withEffective s b m fun e s => withRead s e fun x s => andThen (gap s) fun s =>
      andThen (storeWord s e (withCharacter x (s.index v).toNat (s.a.extractLsb' 0 6))) fun s => .next s.nextStep
  else .refused .undefinedSelector

end Sys2Proof.Machine
end

