-- ==== Sys2Proof/Machine/Floating.lean ====
section
/-! DEFINITION. The floating point option, and the Category II interrupt without it (rule R110, rule R170 to
rule R176). -/

namespace Sys2Proof.Machine

/-- The results and faults of `fp_op` (rule R171, rule R176); only a divide can divide by zero. -/
def floatResult (k : FpKind) (x : Word) (s : State) : State :=
  let r := Config.fpOp k s.augment s.a x
  { ((s.faultIf (decide (k = .fdv) && r.divZero) 2).faultIf r.expOver 4).faultIf r.expUnder 5 with a := r.a, q := r.q }

/-- A floating point instruction of operation code 30 + ff: trapped without the option (rule R110), before any
reference is made (rule R450). -/
def float (k : FpKind) (ff : BitVec 2) (b : BitVec 3) (m : Addr) (s : State) : Res State :=
  if s.params.fpo then withOperand s b m fun x s => .next (floatResult k x s).advance
  else raiseCategoryII s ff

/-- FAD (rule R172). -/
def execFad (b : BitVec 3) (m : Addr) (s : State) : Res State := float .fad 0 b m s

/-- FSB (rule R173). -/
def execFsb (b : BitVec 3) (m : Addr) (s : State) : Res State := float .fsb 1 b m s

/-- FMU (rule R174). -/
def execFmu (b : BitVec 3) (m : Addr) (s : State) : Res State := float .fmu 2 b m s

/-- FDV (rule R175). -/
def execFdv (b : BitVec 3) (m : Addr) (s : State) : Res State := float .fdv 3 b m s

end Sys2Proof.Machine
end

