-- ==== Sys2Proof/Machine/Illegal.lean ====
section
/-! DEFINITION. The illegal codes, which enter Category III (rule R106, rule R453), and code 62, which no rule
describes (rule R107; file 93, U1). -/

namespace Sys2Proof.Machine

/-- Illegal code 26 (rule R106). -/
def execIll26 (_rest : BitVec 18) (s : State) : Res State := raiseCategoryIII s

/-- Illegal code 27 (rule R106). -/
def execIll27 (_rest : BitVec 18) (s : State) : Res State := raiseCategoryIII s

/-- Illegal code 77.7 (rule R106). -/
def execIll777 (_rest : BitVec 15) (s : State) : Res State := raiseCategoryIII s

/-- Illegal code 74.7 (rule R106). -/
def execIll747 (_rest : BitVec 39) (s : State) : Res State := raiseCategoryIII s

/-- Code 62 (rule R107 (a)). -/
def execUndef62 (_rest : BitVec 18) (_s : State) : Res State := .refused .undefinedCode62

end Sys2Proof.Machine
end

