-- ==== Sys2Proof/Machine/InputOutput.lean ====
section
/-! DEFINITION. The input/output instructions (rule R306 to rule R317). -/

namespace Sys2Proof.Machine

/-- A Class III instruction for channel x, which must be installed (rule R306; file 93, U6). -/
def withChannel (s : State) (x : BitVec 3) (rest : Nat → Channel → Res State) : Res State :=
  if x.toNat < s.params.nchan then rest x.toNat (s.channel x.toNat) else .refused .channelNotInstalled

/-- A Reply lets the program go on, a Reject or no response takes the reject jump (rule R306). -/
def answered (r : Answer × State) (n : Addr) : Res State :=
  match r.1 with
  | .reply => .next r.2.nextStep
  | _ => rejectJump r.2 n

/-- CONN (rule R310): a busy channel rejects; two equipments set to the number it names are not modelled by the spec
(file 93, U17). -/
def execConn (n : Addr) (x : BitVec 3) (c : Byte12) (s : State) : Res State :=
  withChannel s x fun x ch =>
    if ch.act then rejectJump s n
    else if 1 < countNumber (c.extractLsb' 9 3) ch.equips then .refused .duplicateEquipment
    else answered (connectChannel s x c) n

/-- EXTF (rule R311). -/
def execExtf (n : Addr) (x : BitVec 3) (c : Byte12) (s : State) : Res State :=
  withChannel s x fun x ch => if ch.act then rejectJump s n else answered (functionChannel s x c) n

/-- BEGR (rule R312). -/
def execBegr (n : Addr) (x : BitVec 3) (m : Addr) (s : State) : Res State :=
  withChannel s x fun x ch =>
    if ch.act then rejectJump s n else andThen (startChannel s x .read m) fun s => .next s.nextStep

/-- BEGW (rule R313). -/
def execBegw (n : Addr) (x : BitVec 3) (m : Addr) (s : State) : Res State :=
  withChannel s x fun x ch =>
    if ch.act then rejectJump s n else andThen (startChannel s x .write m) fun s => .next s.nextStep

/-- A channel's control word where COPY and CCWD put it (rule R315, rule R317, rule R318). -/
def controlWord (wc ad : Addr) : Word := 0#9 ++ wc ++ 0#9 ++ ad

/-- The status and interrupt lines of a channel as COPY puts them in Q (rule R315). -/
def Channel.statusWord (x : Nat) (c : Channel) : Word :=
  0#16 ++ interruptLines x c.equips ++ 0#12 ++ statusLines x c.op c.equips

/-- COPY (rule R315). -/
def execCopy (_n : Addr) (x : BitVec 3) (_m : Addr) (s : State) : Res State :=
  withChannel s x fun x ch => .next { s with a := controlWord ch.wc ch.ad, q := ch.statusWord x }.nextStep

/-- CLCH (rule R316). -/
def execClch (_n : Addr) (x : BitVec 3) (_m : Addr) (s : State) : Res State :=
  withChannel s x fun x _ => .next (clearChannel .channel s x).nextStep

/-- CCWD (rule R317). -/
def execCcwd (_n : Addr) (x : BitVec 3) (_m : Addr) (s : State) : Res State :=
  withChannel s x fun x ch =>
    .next { s.setChannel x { ch with wc := upperAddress s.a, ad := lowerAddress s.a, fullCount := false } with
      a := controlWord ch.wc ch.ad }.nextStep

end Sys2Proof.Machine
end

