-- ==== Sys2Proof/Machine/Internal.lean ====
section
/-! DEFINITION. The internal control instructions INF, AUG, CIS, SEN, CPR, EUB and ELB (rule R265 to rule R287). -/

namespace Sys2Proof.Machine

/-- What a code of INF does. -/
inductive InfOp where
  /-- 000x0 and 000x1 (rule R266). -/
  | selectInactive (x : Nat)
  | clearInactive (x : Nat)
  /-- 00110, 00111 and 00120, 00121 (rule R267). -/
  | exitI (set : Bool)
  | exitII (set : Bool)
  /-- The codes that set or clear one Mask bit and nothing else (rule R268, rule R269, rule R270, rule R273). -/
  | mask (n : Nat) (set : Bool)
  /-- The codes that clear one Interrupt register bit (rule R270, rule R273). -/
  | clearFault (n : Nat)
  /-- 00400 (rule R270). -/
  | clearFaults
  /-- 00500, 00501 (rule R271). -/
  | selectTime
  | clearTime
  /-- 00510, 00511 and 00540, 00541: the Mask bit, and the Interrupt bit cleared (rule R272, rule R274). -/
  | maskAndClear (n : Nat) (set : Bool)
  /-- 00600, 00601 (rule R275). -/
  | active (set : Bool)
  /-- 00602 (rule R276). -/
  | clearSystem
  deriving DecidableEq, Repr

/-- An even last digit selects or sets, 1 clears the selection. -/
def setOrClear (e : Nat) (f : Bool → InfOp) : Option InfOp :=
  match e with
  | 0 => some (f true)
  | 1 => some (f false)
  | _ => none

/-- The arithmetic fault codes 004n0, 004n1, 004n2 and 00400 (rule R270). -/
def arithmeticFaultCode (n e : Nat) : Option InfOp :=
  if n = 0 then (if e = 0 then some .clearFaults else none)
  else if 5 < n then none
  else if e = 2 then some (.clearFault n)
  else setOrClear e (.mask n)

/-- The codes 005ne (rule R271 to rule R274). -/
def systemCode (n e : Nat) : Option InfOp :=
  match n with
  | 0 => if e = 0 then some .selectTime else if e = 1 then some .clearTime else none
  | 1 => setOrClear e (.maskAndClear 43)
  | 2 => if e = 2 then some (.clearFault 45) else setOrClear e (.mask 45)
  | 3 => if e = 2 then some (.clearFault 46) else setOrClear e (.mask 46)
  | 4 => setOrClear e (.maskAndClear 42)
  | _ => none

/-- The operation of a code 00gne, where the code is listed (rule R265 to rule R276). -/
def infOperation (y : Addr) : Option InfOp :=
  let n := (y.extractLsb' 3 3).toNat
  let e := (y.extractLsb' 0 3).toNat
  match (y.extractLsb' 6 9).toNat with
  | 0 => if 3 < n then none
    else if e = 0 then some (.selectInactive n) else if e = 1 then some (.clearInactive n) else none
  | 1 => if n = 1 then setOrClear e .exitI else if n = 2 then setOrClear e .exitII else none
  | 2 => if 3 < n then none else setOrClear e (.mask (30 + n))
  | 3 => if 3 < n then none else setOrClear e (.mask (20 + n))
  | 4 => arithmeticFaultCode n e
  | 5 => systemCode n e
  | 6 => if n = 0 then (if e = 2 then some .clearSystem else setOrClear e .active) else none
  | _ => none

/-- A word with bit n set or cleared. -/
def putBit (w : Word) (n : Nat) (set : Bool) : Word := if set then setBit w n else clearBit w n

/-- What the operation does to the interrupt system (rule R266 to rule R276). -/
def applyInf (o : InfOp) (s : State) : State :=
  match o with
  | .selectInactive x => { s with im := setBit s.im (10 + x), irLatch := clearBit s.irLatch (10 + x) }
  | .clearInactive x => { s with im := clearBit s.im (10 + x), irLatch := clearBit s.irLatch (10 + x) }
  | .exitI b => { s with catI := { s.catI with exit := b } }
  | .exitII b => { s with catII := { s.catII with exit := b } }
  | .mask n b => { s with im := putBit s.im n b }
  | .clearFault n => { s with irLatch := clearBit s.irLatch n }
  | .clearFaults => { s with irLatch := s.irLatch &&& ~~~0o76#48 }
  | .selectTime => { s with im := setBit s.im 44, irLatch := clearBit s.irLatch 44, timeLatch := true }
  | .clearTime => { s with im := clearBit s.im 44, irLatch := clearBit s.irLatch 44, timeLatch := false }
  | .maskAndClear n b => { s with im := putBit s.im n b, irLatch := clearBit s.irLatch n }
  | .active b => { s with active := b }
  | .clearSystem => { s with irLatch := 0, im := 0, active := false, timeLatch := false }

/-- INF (rule R265); an unlisted code is undefined (file 93, U7). -/
def execInf (y : Addr) (s : State) : Res State :=
  match infOperation y with
  | some o => .next (applyInf o s).advance
  | none => .refused (.undefinedFunction y)

/-- The condition of a code of SEN, where the code is listed (rule R277). A channel not installed is inactive. -/
def senseCondition (s : State) (y : Addr) : Option Bool :=
  let n := (y.extractLsb' 3 3).toNat
  let e := (y.extractLsb' 0 3).toNat
  let either (b : Bool) : Option Bool := if e = 0 then some b else if e = 1 then some !b else none
  match (y.extractLsb' 6 9).toNat with
  | 0 => if 3 < n then none else either !(s.channel n).act
  | 1 => if n = 1 then either s.catI.exit else if n = 2 then either s.catII.exit else none
  | 2 => if n = 1 then either s.catI.mode else if n = 2 then either s.catII.mode else none
  | _ => none

/-- SEN (rule R277): in the lower position a pass code. -/
def execSen (y : Addr) (s : State) : Res State :=
  match s.h, senseCondition s y with
  | .lower, _ => .next s.advance
  | .upper, some c => .next (s.skipIf c)
  | .upper, none => .refused (.undefinedSense y)

/-- CIS (rule R278). -/
def execCis (_y : Addr) (s : State) : Res State := .next { s with a := s.ir }.advance

/-- CPR (rule R279). -/
def execCpr (_y : Addr) (s : State) : Res State := .next { s with a := s.product }.advance

/-- The designators v and t of AUG at the places the installation gives them (rule R280). -/
def State.augV (s : State) (y : Addr) : BitVec 3 := y.extractLsb' s.params.augVLo.val 3
def State.augT (s : State) (y : Addr) : BitVec 3 := y.extractLsb' s.params.augTLo.val 3

/-- U with the address portion of its lower instruction replaced (rule R25 (b)). -/
def withLowerAddress (u : Word) (e : Addr) : Word := u.extractLsb' 15 33 ++ e

/-- AUG (rule R280): v modifies the lower instruction's address in U, as an index designator does an address; t is
stored. In the lower position a pass. -/
def execAug (y : Addr) (s : State) : Res State :=
  match s.h with
  | .lower => .next s.advance
  | .upper => withEffective s (s.augV y) (lowerAddress s.u) fun e s =>
      .next { s with u := withLowerAddress s.u e, aug := some (s.augT y) }.advance

/-- The eight bits EUB and ELB load (rule R285). -/
def State.boundField (s : State) (y : Addr) : BitVec 8 :=
  if s.params.boundsLow then y.extractLsb' 0 8 else y.extractLsb' 7 8

/-- EUB (rule R285, rule R287). -/
def execEub (y : Addr) (s : State) : Res State :=
  if s.checking then raiseCategoryIII s else .next { s with bu := s.boundField y }.advance

/-- ELB (rule R286, rule R287). -/
def execElb (y : Addr) (s : State) : Res State :=
  if s.checking then raiseCategoryIII s else .next { s with bl := s.boundField y }.advance

end Sys2Proof.Machine
end

