-- ==== Sys2Proof/Machine/Arithmetic.lean ====
section
/-! DEFINITION. Fixed point and address arithmetic (rule R160 to rule R167). -/

namespace Sys2Proof.Machine

/-- x is added to A; on overflow fault 3 if this instruction can set it (rule R161). -/
def addToA (s : State) (x : Word) (faults : Bool) : State :=
  { s.faultIf (faults && ovfAdd s.a x) 3 with a := ocAdd s.a x }

/-- ADD (rule R161, rule R281). -/
def execAdd (b : BitVec 3) (m : Addr) (s : State) : Res State :=
  withOperand s b m fun x s => .next (addToA s (s.operand x) true).advance

/-- SUB (rule R162, rule R281): the complement is added. -/
def execSub (b : BitVec 3) (m : Addr) (s : State) : Res State :=
  withOperand s b m fun x s => .next (addToA s (~~~s.operand x) true).advance

/-- The 96-bit product; a zero product has the sign of the free bit (rule R163; file 93, U11). -/
def product96 (negative : Bool) (a x : Word) : BitVec 96 :=
  if ocVal a * ocVal x = 0 then (if negative then BitVec.allOnes 96 else 0) else ocOf 96 (ocVal a * ocVal x)

/-- MUI (rule R163, rule R281): the product goes to QA. -/
def execMui (b : BitVec 3) (m : Addr) (s : State) : Res State :=
  withOperand s b m fun x s =>
    let p := product96 ((s.free 0).getLsbD 0) s.a (s.operand x)
    .next { s.drawn 1 with q := p.extractLsb' 48 48, a := p.extractLsb' 0 48 }.advance

/-- The quotient, truncated toward zero, of the dividend QA by a divisor (rule R164). -/
def quotient (q a d : Word) : Int := (ocVal (q ++ a)).tdiv (ocVal d)

/-- The remainder, which has the dividend's sign (rule R164). -/
def remainder (q a d : Word) : Int := (ocVal (q ++ a)).tmod (ocVal d)

/-- The divide fault: a zero divisor, or a quotient of magnitude 2^47 or more (rule R164, rule R431). -/
def divideFaults (q a d : Word) : Bool := decide (ocVal d = 0) || decide (2 ^ 47 ≤ (quotient q a d).natAbs)

/-- The pattern of a quotient or remainder; `negative` says which zero a zero is (rule R164; file 93, U11). -/
def signedWord (negative : Bool) (n : Int) : Word :=
  if n = 0 then (if negative then BitVec.allOnes 48 else 0) else ocOf 48 n

/-- QA divided by d: the sign of a zero quotient is a free bit, a zero remainder has the dividend's sign; after a
divide fault A and Q are free values (rule R164; file 93, U9). -/
def divideQA (s : State) (d : Word) : State :=
  if divideFaults s.q s.a d then { (s.fault 2).drawn 2 with a := s.free 0, q := s.free 1 }
  else
    { s.drawn 1 with
      a := signedWord ((s.free 0).getLsbD 0) (quotient s.q s.a d)
      q := signedWord s.q.msb (remainder s.q s.a d) }

/-- DVI (rule R164, rule R281). -/
def execDvi (b : BitVec 3) (m : Addr) (s : State) : Res State :=
  withOperand s b m fun x s => .next (divideQA s (s.operand x)).advance

/-- INA (rule R165). -/
def execIna (b : BitVec 3) (y : Addr) (s : State) : Res State :=
  withEffective s b y fun e s => .next (addToA s (extendSign e) s.params.ovfInaAdlSbl).advance

/-- INI (rule R166). -/
def execIni (b : BitVec 3) (y : Addr) (s : State) : Res State :=
  withResolved s b y fun b y s => .next (s.setIndex b (ocAdd y (s.index b))).advance

/-- ISK (rule R167): equal patterns clear the register and skip; else it counts up. -/
def execIsk (b : BitVec 3) (y : Addr) (s : State) : Res State :=
  withResolved s b y fun b y s =>
    if s.index b = y then .next (s.setIndex b 0).skip
    else .next (s.setIndex b (ocAdd (s.index b) 1)).advance

end Sys2Proof.Machine
end

