-- ==== Sys2Proof/Machine/Logical.lean ====
section
/-! DEFINITION. The logical instructions (rule R190 to rule R198). -/

namespace Sys2Proof.Machine

/-- SST (rule R191). -/
def execSst (b : BitVec 3) (m : Addr) (s : State) : Res State :=
  withOperand s b m fun x s => .next { s with a := s.a ||| x }.advance

/-- SCL (rule R193). -/
def execScl (b : BitVec 3) (m : Addr) (s : State) : Res State :=
  withOperand s b m fun x s => .next { s with a := s.a &&& ~~~x }.advance

/-- SCM (rule R192). -/
def execScm (b : BitVec 3) (m : Addr) (s : State) : Res State :=
  withOperand s b m fun x s => .next { s with a := s.a ^^^ x }.advance

/-- SSU (rule R194). -/
def execSsu (b : BitVec 3) (m : Addr) (s : State) : Res State :=
  withOperand s b m fun x s => .next { s with a := (x &&& s.q) ||| (s.a &&& ~~~s.q) }.advance

/-- LDL (rule R195). -/
def execLdl (b : BitVec 3) (m : Addr) (s : State) : Res State :=
  withOperand s b m fun x s => .next { s with a := s.q &&& x }.advance

/-- ADL (rule R196). -/
def execAdl (b : BitVec 3) (m : Addr) (s : State) : Res State :=
  withOperand s b m fun x s => .next (addToA s (s.q &&& x) s.params.ovfInaAdlSbl).advance

/-- SBL (rule R197). -/
def execSbl (b : BitVec 3) (m : Addr) (s : State) : Res State :=
  withOperand s b m fun x s => .next (addToA s (~~~(s.q &&& x)) s.params.ovfInaAdlSbl).advance

/-- STL (rule R198). -/
def execStl (b : BitVec 3) (m : Addr) (s : State) : Res State :=
  withEffective s b m fun e s => andThen (storeWord s e (s.q &&& s.a)) fun s => .next s.advance

end Sys2Proof.Machine
end

