-- ==== Sys2Proof/Machine/Replace.lean ====
section
/-! DEFINITION. The replace instructions and the storage tests (rule R220 to rule R226). -/

namespace Sys2Proof.Machine

/-- The sum of the operand and y goes to A and to its location; A is written whether or not the store is made
(rule R220, rule R460). The two references are not indivisible (rule R76). -/
def replaceWith (s : State) (b : BitVec 3) (m : Addr) (y : State → Word) : Res State :=
  withEffective s b m fun e s => withRead s e fun x s => andThen (gap s) fun s =>
    let r := ocAdd x (y s)
    andThen (storeWord { s.faultIf (ovfAdd x (y s)) 3 with a := r } e r) fun s => .next s.advance

/-- RAD (rule R221). -/
def execRad (b : BitVec 3) (m : Addr) (s : State) : Res State := replaceWith s b m fun s => s.a

/-- RSB (rule R222). -/
def execRsb (b : BitVec 3) (m : Addr) (s : State) : Res State := replaceWith s b m fun s => ~~~s.a

/-- RAO (rule R223). -/
def execRao (b : BitVec 3) (m : Addr) (s : State) : Res State := replaceWith s b m fun _ => 1

/-- RSO (rule R224). -/
def execRso (b : BitVec 3) (m : Addr) (s : State) : Res State := replaceWith s b m fun _ => ~~~1

/-- SSK (rule R225). -/
def execSsk (b : BitVec 3) (m : Addr) (s : State) : Res State :=
  withOperand s b m fun x s => .next (s.skipIf x.msb)

/-- SSH (rule R226): the sign is sensed before the shift. -/
def execSsh (b : BitVec 3) (m : Addr) (s : State) : Res State :=
  withEffective s b m fun e s => withRead s e fun x s => andThen (gap s) fun s =>
    andThen (storeWord s e (x.rotateLeft 1)) fun s => .next (s.skipIf x.msb)

end Sys2Proof.Machine
end

