-- ==== Sys2Proof/Machine/Shift.lean ====
section
/-! DEFINITION. Shifting and scaling (rule R199 to rule R209). -/

namespace Sys2Proof.Machine

/-- A shift by K: a count above 177 octal sets fault 1, and its lower seven bits are the places (rule R205). -/
def withShift (s : State) (b : BitVec 3) (k : Addr) (rest : Nat → State → State) : Res State :=
  withEffective s b k fun e s =>
    .next (rest (e.extractLsb' 0 7).toNat (s.faultIf (decide (0o177 < e.toNat)) 1)).advance

/-- ARS (rule R200). -/
def execArs (b : BitVec 3) (k : Addr) (s : State) : Res State :=
  withShift s b k fun n s => { s with a := s.a.sshiftRight n }

/-- QRS (rule R201). -/
def execQrs (b : BitVec 3) (k : Addr) (s : State) : Res State :=
  withShift s b k fun n s => { s with q := s.q.sshiftRight n }

/-- A and Q given the halves of AQ (rule R22). -/
def State.setAQ (s : State) (v : BitVec 96) : State :=
  { s with a := v.extractLsb' 48 48, q := v.extractLsb' 0 48 }

/-- LRS (rule R202). -/
def execLrs (b : BitVec 3) (k : Addr) (s : State) : Res State :=
  withShift s b k fun n s => s.setAQ ((s.a ++ s.q).sshiftRight n)

/-- ALS (rule R203). -/
def execAls (b : BitVec 3) (k : Addr) (s : State) : Res State :=
  withShift s b k fun n s => { s with a := s.a.rotateLeft n }

/-- QLS (rule R204). -/
def execQls (b : BitVec 3) (k : Addr) (s : State) : Res State :=
  withShift s b k fun n s => { s with q := s.q.rotateLeft n }

/-- LLS (rule R206). -/
def execLls (b : BitVec 3) (k : Addr) (s : State) : Res State :=
  withShift s b k fun n s => s.setAQ ((s.a ++ s.q).rotateLeft n)

/-- The two bits at the top of a register differ: it is scaled (rule R207). -/
def scaled {n : Nat} (x : BitVec n) : Bool := x.getMsbD 0 != x.getMsbD 1

/-- Shift left circularly until scaled or the count is used up; the value and the count left (rule R208). -/
def scaleLoop {n : Nat} : Nat → BitVec n → BitVec n × Nat
  | 0, x => (x, 0)
  | c + 1, x => if scaled x then (x, c + 1) else scaleLoop c (x.rotateLeft 1)

/-- Scaling is not executed on either zero (rule R207, note 4). -/
def scaleValue {n : Nat} (c : Nat) (x : BitVec n) : BitVec n × Nat := if ocZero x then (x, c) else scaleLoop c x

/-- The count left below the upper eight bits of k, for the index register (rule R208). -/
def scaleFactor (k : Addr) (c : Nat) : Addr := k.extractLsb' 7 8 ++ BitVec.ofNat 7 c

/-- SCA (rule R208). -/
def execSca (b : BitVec 3) (k : Addr) (s : State) : Res State :=
  withResolved s b k fun b k s =>
    let r := scaleValue (k.extractLsb' 0 7).toNat s.a
    .next ({ s with a := r.1 }.setIndex b (scaleFactor k r.2)).advance

/-- SCQ (rule R209). -/
def execScq (b : BitVec 3) (k : Addr) (s : State) : Res State :=
  withResolved s b k fun b k s =>
    let r := scaleValue (k.extractLsb' 0 7).toNat (s.a ++ s.q)
    .next ((s.setAQ r.1).setIndex b (scaleFactor k r.2)).advance

end Sys2Proof.Machine
end

