-- ==== Sys2Proof/Machine/Transmission.lean ====
section
/-! DEFINITION. The transmission instructions (rule R130 to rule R148). -/

namespace Sys2Proof.Machine

/-- IAQ (rule R131). -/
def execIaq (s : State) : Res State := .next { s with a := s.q, q := s.a }.advance

/-- ATI (rule R148); designator 0 or 7 is undefined (file 93, U2). -/
def execAti (b : BitVec 3) (s : State) : Res State :=
  if namesIndex b then .next (s.setIndex b (lowerAddress s.a)).advance else .refused .undefinedIndex

/-- LDA (rule R132, rule R281). -/
def execLda (b : BitVec 3) (m : Addr) (s : State) : Res State :=
  withOperand s b m fun x s => .next { s with a := s.operand x }.advance

/-- LAC (rule R133). -/
def execLac (b : BitVec 3) (m : Addr) (s : State) : Res State :=
  withOperand s b m fun x s => .next { s with a := ~~~x }.advance

/-- LDQ (rule R134, rule R281). -/
def execLdq (b : BitVec 3) (m : Addr) (s : State) : Res State :=
  withOperand s b m fun x s => .next { s with q := s.operand x }.advance

/-- LQC (rule R135). -/
def execLqc (b : BitVec 3) (m : Addr) (s : State) : Res State :=
  withOperand s b m fun x s => .next { s with q := ~~~x }.advance

/-- A checked store and then `next`. -/
def storeNext (r : Res State) : Res State := andThen r fun s => .next s.advance

/-- STA (rule R136, rule R281). -/
def execSta (b : BitVec 3) (m : Addr) (s : State) : Res State :=
  withEffective s b m fun e s => storeNext (storeWord s e (s.operand s.a))

/-- STQ (rule R137, rule R281). -/
def execStq (b : BitVec 3) (m : Addr) (s : State) : Res State :=
  withEffective s b m fun e s => storeNext (storeWord s e (s.operand s.q))

/-- LIU (rule R139): the reference is made even when no register is named. -/
def execLiu (b : BitVec 3) (m : Addr) (s : State) : Res State :=
  withResolved s b m fun b m s => withRead s m fun x s => .next (s.setIndex b (upperAddress x)).advance

/-- LIL (rule R140). -/
def execLil (b : BitVec 3) (m : Addr) (s : State) : Res State :=
  withResolved s b m fun b m s => withRead s m fun x s => .next (s.setIndex b (lowerAddress x)).advance

/-- SIU (rule R141): designator 0 stores zero. -/
def execSiu (b : BitVec 3) (m : Addr) (s : State) : Res State :=
  withResolved s b m fun b m s => storeNext (storeUpper s m (s.index b))

/-- SIL (rule R142). -/
def execSil (b : BitVec 3) (m : Addr) (s : State) : Res State :=
  withResolved s b m fun b m s => storeNext (storeLower s m (s.index b))

/-- SAU (rule R143). -/
def execSau (b : BitVec 3) (m : Addr) (s : State) : Res State :=
  withEffective s b m fun e s => storeNext (storeUpper s e (lowerAddress s.a))

/-- SAL (rule R144). -/
def execSal (b : BitVec 3) (m : Addr) (s : State) : Res State :=
  withEffective s b m fun e s => storeNext (storeLower s e (lowerAddress s.a))

/-- ENQ (rule R145). -/
def execEnq (b : BitVec 3) (y : Addr) (s : State) : Res State :=
  withEffective s b y fun e s => .next { s with q := extendSign e }.advance

/-- ENA (rule R146). -/
def execEna (b : BitVec 3) (y : Addr) (s : State) : Res State :=
  withEffective s b y fun e s => .next { s with a := extendSign e }.advance

/-- ENI (rule R147). -/
def execEni (b : BitVec 3) (y : Addr) (s : State) : Res State :=
  withResolved s b y fun b y s => .next (s.setIndex b y).advance

end Sys2Proof.Machine
end

