-- ==== Sys2Proof/Machine/Cycle.lean ====
section
/-! DEFINITION. One action of the computer: an instruction, if it is running (rule R14). -/

namespace Sys2Proof.Machine

/-- The instruction that was read, executed and ended. -/
def runDecoded (half : Half) (d : Decoded) (s : State) : Res State :=
  match d with
  | .ok i => andThen (exec i s) (finish half)
  | .error e => .refused (.undefinedEncoding e)

/-- One instruction (rule R14): in the upper position the step is read first, and a read with bad parity stops the
computer before anything is executed (rule R456). The bounds check of that read comes before a return from an interrupt
begins: word 00007, which ends a Category I routine run without bounds checks (rule R462), is read unchecked, its Mode
flip-flop still being set. DESIGN CHOICE (assumption 9): rule R446 does not order its clearing and the read. -/
def runInstruction (s : State) : Res State :=
  match s.h with
  | .upper => andThen (fetch s) fun s =>
      if s.isRunning then andThen (gap s) fun s => runDecoded .upper (decodeUpper s.u) (returnTrigger s) else .next s
  | .lower => runDecoded .lower (decodeLower s.u) s

/-- The computer's own action: an instruction if it is running, its start after an auto-load (rule R488). Stopped
(rule R39, rule R252), hung (assumption 13) or loading (assumption 17) it does nothing. -/
def act (s : State) : Res State :=
  match s.run with
  | .running => runInstruction s
  | .loaded => autoLoadEntry s
  | .stopped _ | .hung | .loading _ => .next s

/-- Whose turn it is (rule R74): the next action of another agent when its time has come, else the computer's. -/
def turn (s : State) : Res State :=
  match s.inputs with
  | [] => act s
  | (0, e) :: rest => deliver e { s with inputs := rest }
  | (n + 1, e) :: rest => act { s with inputs := (n, e) :: rest }

/-- A program step stored at P as if loaded there, and the computer manually started at it (rule R487). -/
def startedAt (s : State) (w : Word) : State :=
  { manualStart (s.setCell s.p (cellOf w)) s.p with inputs := [], between := [] }

end Sys2Proof.Machine
end

