-- ==== Sys2Proof/Machine/Step.lean ====
section
/-! DEFINITION. The step of the machine, and the state in which a given instruction is the next one. -/

namespace Sys2Proof.Machine

/-- One step: one instruction of the computer, or one action of another agent (rule R14, rule R74). -/
def step (s : State) : Host.Outcome State Fault Refusal := turn s

/-- The state with the instruction whose opcode-table bits are w stored where the next step reads it: at P, in the
upper position, the computer started and no other agent acting (assumption 8). -/
def State.withFetchWord (s : State) (nbits w : Nat) : State := startedAt s (tableStep nbits w)

end Sys2Proof.Machine
end

