-- ==== Sys2Proof/Machine/Displays.lean ====
section
/-! DEFINITION. The console displays (rule R476): outputs, each a function of the state; "all displays are active when
the condition arises, whether the computer is running or stopped". -/

namespace Sys2Proof.Machine

/-! ## Channels and the run state -/

/-- Channel x Active and Channel x Parity Error. -/
def State.channelActiveLight (s : State) (x : Nat) : Bool := (s.channel x).act
def State.channelParityLight (s : State) (x : Nat) : Bool := s.ir.getLsbD (20 + x)

/-- The computer is running: it executes program instructions, if only one that never ends, or is about to begin with the
record of an auto-load (rule R488). -/
def State.executing (s : State) : Bool :=
  decide (s.run = .running) || decide (s.run = .hung) || decide (s.run = .loaded)

/-- Computer Running, Program Stop. -/
def State.computerRunningLight (s : State) : Bool :=
  s.executing || s.channels.c0.act || s.channels.c1.act || s.channels.c2.act || s.channels.c3.act
def State.programStopLight (s : State) : Bool :=
  match s.run with
  | .stopped _ => true
  | .running | .hung | .loading _ | .loaded => false

/-! ## The interrupt system and the faults -/

/-- Interrupt Active, Interrupt Mode. -/
def State.interruptActiveLight (s : State) : Bool := s.active
def State.interruptModeLight (s : State) : Bool := s.catI.mode || s.catII.mode

/-- Shift Fault, Divide Fault, Arithmetic Overflow, Exponent Overflow, Exponent Underflow (n = 1 to 5), Operand and
Instruction Parity Error (45, 46). -/
def State.faultLight (s : State) (n : Nat) : Bool := s.ir.getLsbD n

/-! ## The instruction: these lights show what the computer's next action is about to do (assumption 34) -/

/-- The instruction of what the decoder reads, if the code is defined. -/
def definedCode : Decoded → Option Instr
  | .ok i => some i
  | .error _ => none

/-- The instruction the computer is about to execute, if it is running. -/
def State.nextInstruction (s : State) : Option Instr :=
  if s.isRunning then
    match s.h with
    | .upper => definedCode (decodeUpper (s.word s.p))
    | .lower => definedCode (decodeLower s.u)
  else none

/-- Read Next Instruction: "reading a 48-bit instruction word from storage", which begins a step at its upper half. -/
def State.readNextLight (s : State) : Bool := s.isRunning && decide (s.h = .upper)

/-- Upper Instruction, Lower Instruction: H; a 48-bit instruction has H upper. -/
def State.upperInstructionLight (s : State) : Bool := decide (s.h = .upper)
def State.lowerInstructionLight (s : State) : Bool := decide (s.h = .lower)

/-- The index that IJP tests is not zero, its indirect addressing once resolved. -/
def State.countLeft (s : State) (b : BitVec 3) (m : Addr) : Bool :=
  match resolve b m { s with between := [] } with
  | .next (.done b' _ s') => decide (s'.index b' ≠ 0)
  | _ => false

/-- "About to execute a Jump instruction and the condition for jumping has been met"; false for every other
instruction. -/
def State.jumpMet (s : State) : Instr → Bool
  | .ajp j _ | .arj j _ => jumpCondition j s.a
  | .qjp j _ | .qrj j _ => jumpCondition j s.q
  | .ijp b m => s.countLeft b m
  | .slj _ | .rtj _ | .sls _ | .ss1 _ | .ss2 _ | .ss3 _ | .srj _ | .sr1 _ | .sr2 _ | .sr3 _ => true
  | .sj1 _ | .rj1 _ => s.console.jump1
  | .sj2 _ | .rj2 _ => s.console.jump2
  | .sj3 _ | .rj3 _ => s.console.jump3
  | .iaq | .ati _ | .ars _ _ | .qrs _ _ | .lrs _ _ | .enq _ _ | .als _ _ | .qls _ _ | .lls _ _ | .ena _ _ | .ina _ _
  | .lda _ _ | .lac _ _ | .add _ _ | .sub _ _ | .ldq _ _ | .lqc _ _ | .sta _ _ | .stq _ _ | .mui _ _ | .dvi _ _
  | .fad _ _ | .fsb _ _ | .fmu _ _ | .fdv _ _ | .sca _ _ | .scq _ _ | .ssk _ _ | .ssh _ _ | .sst _ _ | .scl _ _
  | .scm _ _ | .ssu _ _ | .ldl _ _ | .adl _ _ | .sbl _ _ | .stl _ _ | .eni _ _ | .ini _ _ | .liu _ _ | .lil _ _
  | .isk _ _ | .siu _ _ | .sil _ _ | .sau _ _ | .sal _ _ | .eqs _ _ | .ths _ _ | .meq _ _ | .mth _ _ | .rad _ _
  | .rsb _ _ | .rao _ _ | .rso _ _ | .ill26 _ | .ill27 _ | .inf _ | .aug _ | .cis _ | .sen _ | .cpr _ | .eub _ | .elb _
  | .undef62 _ | .ill777 _ | .conn _ _ _ | .extf _ _ _ | .begr _ _ _ | .begw _ _ _ | .copy _ _ _ | .clch _ _ _
  | .ccwd _ _ _ | .ill747 _ | .ldc _ _ _ | .stc _ _ _ => false

/-- The cycles the lights tell apart. -/
inductive CycleKind where
  /-- "An instruction which requires no memory reference". -/
  | execute
  /-- "Requires referencing memory". -/
  | operand
  /-- "Requires two cycles". -/
  | extended
  deriving DecidableEq, Repr

/-- The kind of an instruction without a reference of its own: its designator 7 asks for one (rule R75, rule R101). -/
def indirectCycle (b : BitVec 3) : CycleKind := if b = 7 then .operand else .execute

/-- The kind of an instruction by its storage references (rule R75): none, one (or one a word examined, or those of
indirect addressing alone), or two of its own. A return jump makes one if it is made, and so do EUB and ELB, illegal
while bounds checking is in effect, by their entry (rule R287); AUG resolves a designator v of 7 in the upper position
(rule R280). -/
def State.cycleOf (s : State) : Instr → CycleKind
  | .ars b _ | .qrs b _ | .lrs b _ | .enq b _ | .als b _ | .qls b _ | .lls b _ | .ena b _ | .ina b _ | .sca b _
  | .scq b _ | .eni b _ | .ini b _ | .isk b _ | .ijp b _ => indirectCycle b
  | .aug y => if s.h = .upper then indirectCycle (s.augV y) else .execute
  | .eub _ | .elb _ => if s.checking then .operand else .execute
  | .iaq | .ati _ | .ajp _ _ | .qjp _ _ | .slj _ | .sj1 _ | .sj2 _ | .sj3 _ | .sls _ | .ss1 _ | .ss2 _ | .ss3 _ | .inf _
  | .cis _ | .sen _ | .cpr _ | .undef62 _ | .conn _ _ _ | .extf _ _ _ | .begr _ _ _ | .begw _ _ _ | .copy _ _ _
  | .clch _ _ _ | .ccwd _ _ _ =>
    .execute
  | .arj j _ => if jumpCondition j s.a then .operand else .execute
  | .qrj j _ => if jumpCondition j s.q then .operand else .execute
  | .rj1 _ => if s.console.jump1 then .operand else .execute
  | .rj2 _ => if s.console.jump2 then .operand else .execute
  | .rj3 _ => if s.console.jump3 then .operand else .execute
  | .lda _ _ | .lac _ _ | .add _ _ | .sub _ _ | .ldq _ _ | .lqc _ _ | .sta _ _ | .stq _ _ | .mui _ _ | .dvi _ _
  | .fad _ _ | .fsb _ _ | .fmu _ _ | .fdv _ _ | .ssk _ _ | .sst _ _ | .scl _ _ | .scm _ _ | .ssu _ _ | .ldl _ _
  | .adl _ _ | .sbl _ _ | .stl _ _ | .liu _ _ | .lil _ _ | .siu _ _ | .sil _ _ | .sau _ _ | .sal _ _ | .eqs _ _
  | .ths _ _ | .meq _ _ | .mth _ _ | .rtj _ | .srj _ | .sr1 _ | .sr2 _ | .sr3 _ | .ill26 _ | .ill27 _ | .ill777 _
  | .ill747 _ | .ldc _ _ _ => .operand
  | .ssh _ _ | .rad _ _ | .rsb _ _ | .rao _ _ | .rso _ _ | .stc _ _ _ => .extended

/-- Execute Cycle, Operand Cycle, Extended Cycle. -/
def State.cycleLight (s : State) (k : CycleKind) : Bool := s.nextInstruction.any fun i => decide (s.cycleOf i = k)

/-- Jump Condition. -/
def State.jumpConditionLight (s : State) : Bool := s.nextInstruction.any s.jumpMet

/-! ## The switches and the typewriter -/

/-- Maintenance Mode, Type-In. -/
def State.maintenanceLight (s : State) : Bool := s.console.maint
def State.typeInLight (s : State) : Bool :=
  s.channels.c0.typingIn || s.channels.c1.typingIn || s.channels.c2.typingIn || s.channels.c3.typingIn

end Sys2Proof.Machine
end

