-- ==== Sys2Proof/Safety.lean ====
section
/-! DEFINITION. What a good state is, and the words in which statements speak of a run: the invariant, the address an
instruction reaches, the states jumps and interrupt entries lead to, and what is left as it was. -/

namespace Sys2Proof.Machine

/-! ## The invariant -/

/-- Fewer than four bytes wait to be assembled and at most four to be sent (rule R319, rule R320). -/
def Channel.wf (c : Channel) : Bool := decide (c.asm.length < 4) && decide (c.out.length ≤ 4)

/-- A state as the rules allow it: storage in its canonical form, ones only in the assigned positions of the Interrupt
and Interrupt Mask registers (rule R27, rule R28), the channels' word buffers within a word, and a return under way
only while its instruction has not ended (rule R446, rule R452). -/
structure State.Inv (s : State) : Prop where
  memory : s.mem.wf = true
  interrupt : s.irLatch &&& ~~~latchedBits = 0
  mask : s.im &&& ~~~maskBits = 0
  channel0 : s.channels.c0.wf = true
  channel1 : s.channels.c1.wf = true
  channel2 : s.channels.c2.wf = true
  channel3 : s.channels.c3.wf = true
  returning : s.ret.isSome = true → s.unfinished = true

/-! ## Where an instruction reaches -/

/-- The indirect addressing of designator b and address m, begun in s, ends with b', m' in the state s' (rule R101). -/
def Reaches (s : State) (b : BitVec 3) (m : Addr) (b' : BitVec 3) (m' : Addr) (s' : State) : Prop :=
  resolve b m s = .next (.done b' m' s')

/-- No other agent acts inside the instruction, or inside an entry by return jump (rule R74). -/
def State.Quiet (s : State) : Prop := s.between = []

/-- No action of another agent is due at all. -/
def State.Alone (s : State) : Prop := s.inputs = [] ∧ s.between = []

/-! ## Where a run goes on -/

/-- After a jump to the upper instruction of m (rule R240). -/
def State.atUpper (s : State) (m : Addr) : State := { s with p := m, h := .upper }

/-- After the reject jump of a 48-bit instruction: to n, or, n out of bounds, bit 42 set and the next step
(rule R251, rule R306). -/
def State.rejectedTo (s : State) (n : Addr) : State :=
  if s.allowed n then s.atUpper n else { s with irLatch := setBit s.irLatch 42, p := s.p + 1, h := .upper }

/-- After a jump that a return from an interrupt makes to the half its Exit flip-flop names; a lower half loads U
(rule R446, rule R452). -/
def State.returned (s : State) (m : Addr) (exit : Bool) : State :=
  if exit then { s with ret := none, p := m, h := .lower, u := s.word m } else { s with ret := none, p := m, h := .upper }

/-- The word at m with an address in its upper address portion (rule R241). -/
def State.linked (s : State) (m stored : Addr) : Cell := replaceUpper stored (s.cell m)

/-- After a return jump that stored an address in word m, if no other agent acts inside it (rule R241). -/
def State.through (s : State) (m stored : Addr) : State :=
  { s.setCell m (s.linked m stored) with p := m, h := .lower, u := dataOf (s.linked m stored) }

/-- The word at m can be entered by a return jump: it exists, and is good once the address is stored in it. -/
def State.enterable (s : State) (m stored : Addr) : Prop :=
  s.present m = true ∧ badParity (s.linked m stored) = false

/-! ## What is left as it was -/

/-- Every word of storage reads as before. -/
def SameStorage (s t : State) : Prop := ∀ a : Addr, t.cell a = s.cell a

/-- Every word of storage but the one at a reads as before. -/
def SameStorageBut (a : Addr) (s t : State) : Prop := ∀ x : Addr, x ≠ a → t.cell x = s.cell x

/-- The parity of every word that exists is good. -/
def GoodParity (s : State) : Prop := ∀ a : Addr, badParity (s.cell a) = false

/-- The instructions that never store (the storage references of rule R75). A floating point instruction and EUB and
ELB are not among them: they may enter an interrupt. -/
def storesNothing : Instr → Bool
  | .iaq | .ati _ | .ars _ _ | .qrs _ _ | .lrs _ _ | .enq _ _ | .als _ _ | .qls _ _ | .lls _ _ | .ena _ _ | .ina _ _
  | .lda _ _ | .lac _ _ | .add _ _ | .sub _ _ | .ldq _ _ | .lqc _ _ | .mui _ _ | .dvi _ _ | .sca _ _ | .scq _ _
  | .ssk _ _ | .sst _ _ | .scl _ _ | .scm _ _ | .ssu _ _ | .ldl _ _ | .adl _ _ | .sbl _ _ | .eni _ _ | .ini _ _
  | .liu _ _ | .lil _ _ | .isk _ _ | .ijp _ _ | .eqs _ _ | .ths _ _ | .meq _ _ | .mth _ _ | .ajp _ _ | .qjp _ _
  | .slj _ | .sj1 _ | .sj2 _ | .sj3 _ | .sls _ | .ss1 _ | .ss2 _ | .ss3 _ | .inf _ | .aug _ | .cis _ | .sen _ | .cpr _
  | .conn _ _ _ | .extf _ _ _ | .begr _ _ _ | .begw _ _ _ | .copy _ _ _ | .clch _ _ _ | .ccwd _ _ _ | .ldc _ _ _ => true
  | .sta _ _ | .stq _ _ | .stl _ _ | .siu _ _ | .sil _ _ | .sau _ _ | .sal _ _ | .rad _ _ | .rsb _ _ | .rao _ _
  | .rso _ _ | .ssh _ _ | .stc _ _ _ => false
  | .arj _ _ | .qrj _ _ | .rtj _ | .rj1 _ | .rj2 _ | .rj3 _ | .srj _ | .sr1 _ | .sr2 _ | .sr3 _ => false
  | .fad _ _ | .fsb _ _ | .fmu _ _ | .fdv _ _ | .eub _ | .elb _ => false
  | .ill26 _ | .ill27 _ | .ill777 _ | .ill747 _ | .undef62 _ => false

/-- The instructions by which A is written, as rule R20 lists them. -/
def writesA : Instr → Bool
  | .lda _ _ | .lac _ _ | .ena _ _ | .ina _ _ | .add _ _ | .sub _ _ | .mui _ _ | .dvi _ _ | .fad _ _ | .fsb _ _
  | .fmu _ _ | .fdv _ _ | .sst _ _ | .scl _ _ | .scm _ _ | .ssu _ _ | .ldl _ _ | .adl _ _ | .sbl _ _ | .ars _ _
  | .als _ _ | .lrs _ _ | .lls _ _ | .sca _ _ | .scq _ _ | .rad _ _ | .rsb _ _ | .rao _ _ | .rso _ _ | .iaq
  | .ldc _ _ _ | .copy _ _ _ | .cis _ | .cpr _ | .ccwd _ _ _ => true
  | _ => false

/-- The instructions by which Q is written, as rule R21 lists them. -/
def writesQ : Instr → Bool
  | .ldq _ _ | .lqc _ _ | .enq _ _ | .iaq | .mui _ _ | .dvi _ _ | .fad _ _ | .fsb _ _ | .fmu _ _ | .fdv _ _ | .qrs _ _
  | .qls _ _ | .lrs _ _ | .lls _ _ | .scq _ _ | .copy _ _ _ => true
  | _ => false

/-- The instructions by which an index register is written, as rule R23 lists them. -/
def writesIndex : Instr → Bool
  | .eni _ _ | .ini _ _ | .isk _ _ | .ijp _ _ | .liu _ _ | .lil _ _ | .ati _ | .sca _ _ | .scq _ _ | .eqs _ _
  | .ths _ _ | .meq _ _ | .mth _ _ => true
  | _ => false

/-- The instructions that change a channel or what is connected to it (rule R310 to rule R317). -/
def changesChannel : Instr → Bool
  | .conn _ _ _ | .extf _ _ _ | .begr _ _ _ | .begw _ _ _ | .clch _ _ _ | .ccwd _ _ _ => true
  | _ => false

/-- The operation codes that enter Category II without the floating point option (rule R110). -/
def isFloating : Instr → Bool
  | .fad _ _ | .fsb _ _ | .fmu _ _ | .fdv _ _ => true
  | _ => false

/-- The codes that are illegal whatever the state (rule R106). -/
def isIllegal : Instr → Bool
  | .ill26 _ | .ill27 _ | .ill777 _ | .ill747 _ => true
  | _ => false

/-- The instructions that can make a normal jump, the reject jump included, and so end an interrupt routine (rule R240,
rule R306, rule R446). -/
def jumpsNormally : Instr → Bool
  | .ajp _ _ | .qjp _ _ | .ijp _ _ | .slj _ | .sj1 _ | .sj2 _ | .sj3 _ | .sls _ | .ss1 _ | .ss2 _ | .ss3 _ => true
  | .conn _ _ _ | .extf _ _ _ | .begr _ _ _ | .begw _ _ _ => true
  | _ => false

/-- The instruction is an INF. -/
def isInf : Instr → Bool
  | .inf _ => true
  | _ => false

/-- The condition j of the register jumps holds of a register (rule R242, rule R244). -/
def JumpTest (j : BitVec 2) (x : Word) : Prop :=
  (j = 0 ∧ ocVal x = 0) ∨ (j = 1 ∧ ocVal x ≠ 0) ∨ (j = 2 ∧ x.getLsbD 47 = false) ∨ (j = 3 ∧ x.getLsbD 47 = true)

/-- The search i of the list of words m, m + 1, ..., one for each count in index register b, begun in s, ends as the
rule says: at the last word that hits, its place left in b, with a skip; or with b zero and no skip (rule R230). -/
def SearchEnds (i : Instr) (hit : Word → Bool) (b : BitVec 3) (m : Addr) (s0 s : State) : Prop :=
  let word (k : Nat) : Word := s.word (ocAdd m (BitVec.ofNat 15 k))
  (∀ k < (s.index b).toNat, hit (word k) = true →
    (∀ j < (s.index b).toNat, k < j → hit (word j) = false) →
    exec i s0 = .next (s.setIndex b (BitVec.ofNat 15 k)).skip) ∧
  ((∀ j < (s.index b).toNat, hit (word j) = false) → exec i s0 = .next (s.setIndex b 0).advance)

/-- The actions that are switches of the console and its typewriter, all but the power control, System Active and
Maintenance Mode (rule R470 to rule R475). -/
def isLockable (s : State) : Event → Bool
  | .manualInterrupt | .go | .restart | .autoLoad | .endOfRecordSwitch | .internalMasterClear | .externalMasterClear
  | .jumpSwitch _ _ | .stopSwitch _ _ | .autoLoadSwitches _ _ _ | .manualStart _ => true
  | .equipment x i h => s.switchOf x.val i h
  | .equipmentNumber x i _ => s.typewriterAt x.val i
  | .tick | .emergencyOff | .systemActive _ | .maintenanceMode _ | .corrupt _ _ | .channelCycle _ | .acceptByte _ _
  | .codeFault _ | .dataFault _ => false

/-- The words an interrupt entry changes without a bounds check (rule R69, rule R459). -/
def entryWords : List Addr := [0o00007, 0o00020, 0o00030, 0o00031, 0o00032, 0o00033]

end Sys2Proof.Machine
end

