-- ==== Sys2Proof/Certificates/Slice0/Obligations.lean ====
section
/-! DEFINITION. The statements for the provers. In the statements about one instruction, s is the state before it,
`Reaches s b m b' m' s'` says that its indirect addressing ends with b' and m' in the state s' (for a designator other
than 7 that is b, m and s themselves, `Obligations.IndexDesignators`), and the next state is written out in full, so
that what it does not name is as before. -/

open Sys2Proof Sys2Proof.Machine

/-! ## Encodings -/

/-- Words written out from the encodings of the spec decode to the instructions they stand for (rule R91 to R95). -/
def Obligations.DecodeWords : Prop :=
  decodeHalf 0o12_2_00200 = .ok (.lda 2 0o200) ∧
  decodeHalf 0o00_7_00554 = .ok .iaq ∧
  decodeHalf 0o00_7_40543 = .ok (.ati 3) ∧
  decodeHalf 0o22_7_00500 = .ok (.arj 3 0o500) ∧
  decodeHalf 0o75_4_00200 = .ok (.rtj 0o200) ∧
  decodeHalf 0o76_0_00500 = .ok (.sls 0o500) ∧
  decodeHalf 0o77_0_00602 = .ok (.inf 0o602) ∧
  decodeHalf 0o26_5_12345 = .ok (.ill26 0o512345) ∧
  decodeUpper 0o7400202000004000 = .ok (.conn 0o2020 0 0o4000) ∧
  decodeUpper 0o7420202001003001 = .ok (.begr 0o2020 1 0o3001) ∧
  decodeUpper 0o6302000650503000 = .ok (.stc 0 2 0o3000) ∧
  decodeUpper 0o6302000650003000 = .ok (.ldc 0 2 0o3000)

/-- Every instruction, with every value of every operand, is read back from the bits the encoder writes for it. -/
def Obligations.DecodeOfEncode : Prop := ∀ i : Instr, decode (encode i) = .ok i

/-- Every code the decoder accepts is the code of the instruction it gives: no bit of an instruction is ignored. -/
def Obligations.EncodeOfDecode : Prop :=
  (∀ (w : HalfWord) (i : Instr), decodeHalf w = .ok i → encode i = .half w) ∧
  (∀ (u : Word) (i : Instr), decodeUpper u = .ok i →
    encode i = .full u ∨ encode i = .half (u.extractLsb' 24 24))

/-- The illegal codes are exactly 26, 27, 77.7 and, begun in the upper position, 74.7 (rule R106, rule R454). -/
def Obligations.IllegalCodes : Prop :=
  (∀ w : HalfWord, (∃ i, decodeHalf w = .ok i ∧ isIllegal i = true) ↔
    (w.extractLsb' 18 6 = 0o26#6 ∨ w.extractLsb' 18 6 = 0o27#6 ∨ w.extractLsb' 15 9 = 0o777#9)) ∧
  (∀ u : Word, (∃ i, decodeUpper u = .ok i ∧ isIllegal i = true) ↔
    (u.extractLsb' 42 6 = 0o26#6 ∨ u.extractLsb' 42 6 = 0o27#6 ∨ u.extractLsb' 39 9 = 0o777#9 ∨
      u.extractLsb' 39 9 = 0o747#9))

/-! ## The step -/

/-- With no other agent acting, a running computer's step reads the program step at P when its upper half is next, and
executes the instruction decoded from U, upper or lower half, as `exec` says, before the end of instruction
(rule R14). At that end the stored designators of AUG are gone after a lower instruction (rule R40), a computer that runs
is sampled and one that has stopped is not (rule R440); a return word whose instruction has ended without its jump is
refused (file 93, U15). -/
def Obligations.StepRunsInstruction : Prop :=
  (∀ (s : State) (i : Instr), s.Alone → s.run = .running → s.h = .upper →
    s.present s.p = true → s.allowed s.p = true → badParity (s.cell s.p) = false → decodeUpper (s.word s.p) = .ok i →
    step s = andThen (exec i (returnTrigger { s with aug := none, u := s.word s.p })) (finish .upper)) ∧
  (∀ (s : State) (i : Instr), s.Alone → s.run = .running → s.h = .lower → decodeLower s.u = .ok i →
    step s = andThen (exec i s) (finish .lower)) ∧
  (∀ (s : State) (half : Half),
    let t : State := { s with aug := if half = .lower then none else s.aug }
    (s.ret = none → s.run = .running → s.Quiet → finish half s = sample t) ∧
    (s.ret = none → s.run ≠ .running → finish half s = .next t) ∧
    (s.unfinished = true → finish half s = .next t) ∧
    (s.ret ≠ none → s.unfinished = false → finish half s = .refused .undefinedReturn))

/-- A computer that is stopped does nothing until another agent acts (rule R39, rule R252). That one with an endless
indirect chain, and one that is loading a record, do nothing either is the model's choice (assumption 13, file 93, U12;
assumption 17). -/
def Obligations.StoppedComputerStays : Prop :=
  ∀ s : State, s.inputs = [] → s.run ≠ .running → s.run ≠ .loaded → step s = .next s

/-- Every step keeps the invariant, whatever the other agents do. -/
def Obligations.StepKeepsInvariant : Prop := ∀ s t : State, s.Inv → step s = .next t → t.Inv

/-- The invariant holds after reset. -/
def Obligations.ResetInvariant : Prop := State.reset.Inv

/-- After reset (rule R482) the computer is stopped, the Interrupt register bits an internal master clear clears are
0, and every channel is inactive, with nothing connected and a control word of zeros. The other registers' values are
the model's choice (assumption 1) and are not stated. -/
def Obligations.ResetValues : Prop :=
  State.reset.run = .stopped .masterClear ∧
  (∀ n ∈ [1, 2, 3, 4, 5, 20, 21, 22, 23, 42, 43, 45, 46], State.reset.ir.getLsbD n = false) ∧
  (∀ x < 4, (State.reset.channel x).act = false ∧ (State.reset.channel x).connected = none ∧
    (State.reset.channel x).wc = 0 ∧ (State.reset.channel x).ad = 0)

/-- An internal master clear clears its Interrupt register bits, stops the computer and leaves the bounds registers,
storage and the channels (rule R480). An external one stops every installed channel, disconnects its equipments and
clears its control word and I/O Parity Error bit, and changes no other register (rule R481). An equipment that shares
no machine with another is what the equipment's own clear makes of it (the model's choice where the rules are silent,
assumptions 18 to 21), its Interrupt signal down; of the sides of a shared machine only the dropped connection is
stated. What else an internal one changes is not stated (decision D21). The System Active switch going On issues both
(rule R482); going Off it stops a computer that is running, and while it and Maintenance Mode are off no other switch
but the power control does anything (rule R473, rule R483). -/
def Obligations.MasterClears : Prop :=
  (∀ s : State, let t := internalMasterClear s
    (∀ n ∈ [1, 2, 3, 4, 5, 20, 21, 22, 23, 42, 43, 45, 46], t.ir.getLsbD n = false) ∧
    t.run = .stopped .masterClear ∧ t.bl = s.bl ∧ t.bu = s.bu ∧ t.mem = s.mem ∧ t.channels = s.channels) ∧
  (∀ s : State, let t := externalMasterClear s
    (∀ x < s.params.nchan, (t.channel x).act = false ∧ (t.channel x).connected = none ∧ (t.channel x).wc = 0 ∧
      (t.channel x).ad = 0 ∧ t.irLatch.getLsbD (20 + x) = false ∧
      (∀ e ∈ (t.channel x).equips, e.connected = false) ∧
      (∀ (i : Nat) (e : Equipment), (s.channel x).equips[i]? = some e → ∃ d : Device,
        (t.channel x).equips[i]? = some { e with connected := false, gated := false, device := d } ∧
        (e.machine = none →
          d = deviceClear (e.link x (s.channel x).op) .external e.device ∧ deviceInterrupt x d = false))) ∧
    t = { s with channels := t.channels, irLatch := t.irLatch } ∧
    (∀ n, n < 20 ∨ 24 ≤ n → t.irLatch.getLsbD n = s.irLatch.getLsbD n)) ∧
  (∀ s : State, let on : State := { s with console := { s.console with systemActive := true } }
    s.console.systemActive = false →
      deliver (.systemActive true) s = .next (externalMasterClear (internalMasterClear on))) ∧
  (∀ s : State, let off : State := { s with console := { s.console with systemActive := false } }
    s.console.systemActive = true → s.run = .running →
      deliver (.systemActive false) s = .next { off with run := .stopped .systemInactive }) ∧
  (∀ (s : State) (e : Event), s.console.systemActive = false → s.console.maint = false → isLockable s e = true →
    deliver e s = .next s)

/-- The Restart switch: an external master clear, Interrupt Active cleared, and a return jump to 00000 that stores P
there, whatever the computer was doing (rule R484, decision D22; what that means for a selective stop is assumption 33).
Auto Load makes both master clears, sends the switches' connect and function codes, and starts a Read of 40000 octal
words at the start address with no control word fetched, storage and the bounds registers as they were (rule R335); two
equipments of one number are refused (file 93, U17). The record in, the computer begins at 00000: its upper instruction,
or as Restart does (rule R488, decision D23). That the computer then waits, and that no stored designator of AUG is left
for that instruction, are the model's choices (assumption 17). -/
def Obligations.RestartAndAutoLoad : Prop :=
  (∀ s : State, s.switchesLive = true → s.Quiet →
    let r : State := { externalMasterClear s with active := false, aug := none, ret := none, run := .running }
    r.enterable 0 s.p → deliver .restart s = .next (r.through 0 s.p)) ∧
  (∀ s : State, s.switchesLive = true → s.console.autoChannel.val < s.params.nchan →
    let x := s.console.autoChannel.val
    let n := countNumber (s.console.autoConnect.extractLsb' 9 3) (s.channel x).equips
    (1 < n → deliver .autoLoad s = .refused .duplicateEquipment) ∧
    let c := externalMasterClear (internalMasterClear s)
    let connected := (connectChannel c x s.console.autoConnect).2
    let functioned := (functionChannel connected x s.console.autoFunction).2
    (n ≤ 1 → ∃ t : State, deliver .autoLoad s = .next t ∧
      t = { activate functioned x .read 0o40000 s.params.autoloadStart with run := .loading s.console.autoChannel } ∧
      (t.channel x).wc = 0o40000 ∧ (t.channel x).ad = s.params.autoloadStart ∧ (t.channel x).dir = .read ∧
      (t.channel x).act = true ∧ t.mem = s.mem ∧ t.bl = s.bl ∧ t.bu = s.bu)) ∧
  (∀ s : State, s.inputs = [] → s.run = .loaded →
    let r : State := { s with aug := none, run := .running }
    (s.params.autoloadEntry = .upper → step s = .next (r.atUpper 0)) ∧
    (s.params.autoloadEntry = .lower → s.Quiet → s.enterable 0 s.p → step s = .next (r.through 0 s.p)))

/-! ## What changes what -/

/-- Nothing but ELB and EUB writes the bounds registers: no step, whatever the computer or another agent does in it, in
which the computer does not execute one of them, and no action of another agent, the master clears among them
(rule R30). -/
def Obligations.OnlyEnterBoundsWriteBounds : Prop :=
  (∀ s t : State, step s = .next t →
    ((∀ y, s.nextInstruction ≠ some (.elb y)) → t.bl = s.bl) ∧
    ((∀ y, s.nextInstruction ≠ some (.eub y)) → t.bu = s.bu)) ∧
  (∀ (e : Event) (s t : State), deliver e s = .next t → t.bl = s.bl ∧ t.bu = s.bu)

/-- A, Q and the index registers are written by no instruction but those listed for each (rule R20, R21, R23). -/
def Obligations.RegistersWrittenAsListed : Prop :=
  ∀ (i : Instr) (s t : State), exec i s = .next t →
    (writesA i = false → t.a = s.a) ∧ (writesQ i = false → t.q = s.q) ∧ (writesIndex i = false → t.b = s.b)

/-- With no other agent acting inside it, an instruction that is no INF leaves the Interrupt Mask register, the
Interrupt Active flip-flop, the Category I flip-flops, the time latch, the console switches and the parameters as they
were; Category II too unless it is a floating point instruction; and the channels unless it is for one. -/
def Obligations.InterruptSystemFrame : Prop :=
  ∀ (i : Instr) (s t : State), s.Quiet → exec i s = .next t →
    t.console = s.console ∧ t.params = s.params ∧ (changesChannel i = false → t.channels = s.channels) ∧
    (isInf i = false → t.im = s.im ∧ t.active = s.active ∧ t.catI = s.catI ∧ t.timeLatch = s.timeLatch ∧
      (isFloating i = false → t.catII = s.catII))

/-- No instruction but INF and CLCH clears a latched bit of the Interrupt register: a fault bit stays set (rule R44). Bits
30 to 33 are no latches but the interrupt lines as they are (rule R435), and are not among them. -/
def Obligations.FaultBitsStick : Prop :=
  ∀ (i : Instr) (s t : State) (n : Nat), isInf i = false → (∀ r x m, i ≠ .clch r x m) → n ∉ [30, 31, 32, 33] →
    exec i s = .next t → s.ir.getLsbD n = true → t.ir.getLsbD n = true

/-- With no other agent acting inside it, an instruction that makes no store leaves every word of storage as it was
(rule R75), and one that stores leaves every word but one: the word at M of a store, a replace or STC, at m of SIU, SIL
and a return jump, and the entry word of a Category II or III interrupt. -/
def Obligations.StorageFrame : Prop :=
  (∀ (i : Instr) (s t : State), s.Quiet → storesNothing i = true → exec i s = .next t → SameStorage s t) ∧
  (∀ (b v : BitVec 3) (m : Addr) (s t : State) (b' : BitVec 3) (m' : Addr) (s' : State),
    s.Quiet → Reaches s b m b' m' s' →
    (∀ i ∈ [Instr.sta b m, .stq b m, .stl b m, .sau b m, .sal b m, .rad b m, .rsb b m, .rao b m, .rso b m, .ssh b m,
        .stc b v m], exec i s = .next t → SameStorageBut (modified s' b' m') s t) ∧
    (∀ i ∈ [Instr.siu b m, .sil b m], exec i s = .next t → SameStorageBut m' s t)) ∧
  (∀ (j : BitVec 2) (m : Addr) (s t : State), s.Quiet →
    ∀ i ∈ [Instr.arj j m, .qrj j m, .rtj m, .rj1 m, .rj2 m, .rj3 m, .srj m, .sr1 m, .sr2 m, .sr3 m],
      exec i s = .next t → SameStorageBut m s t) ∧
  (∀ (b : BitVec 3) (m : Addr) (s t : State), s.Quiet →
    ∀ p ∈ [(Instr.fad b m, 0o30#15), (.fsb b m, 0o31#15), (.fmu b m, 0o32#15), (.fdv b m, 0o33#15)],
      exec p.1 s = .next t → SameStorageBut p.2 s t) ∧
  (∀ (y : Addr) (r : BitVec 18) (r' : BitVec 15) (r'' : BitVec 39) (s t : State), s.Quiet →
    ∀ i ∈ [Instr.eub y, .elb y, .ill26 r, .ill27 r, .ill777 r', .ill747 r''],
      exec i s = .next t → SameStorageBut 0o20 s t)

/-- The external interrupt bits are the interrupt lines of the installed channels, as they are now (rule R435, decision
D19). The Manual Interrupt switch sets bit 43 only while it is selected and the system is active (rule R437). INF 00500
selects the time interrupt and INF 00501 clears the selection, both clearing bit 44, and a tick sets bit 44 once for
each selection (rule R271, R436; the clearing and the latch are decision D20). -/
def Obligations.OutsideConditions : Prop :=
  (∀ (s : State) (x : Nat), x < 4 → (s.ir.getLsbD (30 + x) = true ↔
    x < s.params.nchan ∧ ∃ e ∈ (s.channel x).equips, deviceInterrupt x e.device = true)) ∧
  (∀ s : State, s.switchesLive = true → deliver .manualInterrupt s = .next
    (if s.im.getLsbD 43 = true ∧ s.active = true then { s with irLatch := setBit s.irLatch 43 } else s)) ∧
  (∀ s : State,
    exec (.inf 0o00500) s =
      .next { s with im := setBit s.im 44, irLatch := clearBit s.irLatch 44, timeLatch := true }.advance ∧
    exec (.inf 0o00501) s =
      .next { s with im := clearBit s.im 44, irLatch := clearBit s.irLatch 44, timeLatch := false }.advance ∧
    deliver .tick s = .next (if s.im.getLsbD 44 = true ∧ s.timeLatch = true
      then { s with irLatch := setBit s.irLatch 44, timeLatch := false } else s))

/-! ## Storage -/

/-- A word enters storage with odd parity in each of its portions: bit 48 that of bits 14-00, bit 49 that of bits 38-24,
bit 50 that of bits 47-39 and 23-15. Its data are read back, and any one of its 51 bits changed makes its parity bad
(rule R62, rule R63). -/
def Obligations.CellParity : Prop :=
  ∀ v : Word,
    let ones (l : List Nat) : Nat := (l.filter fun n => v.getLsbD n).length
    let bit (n : Nat) : Nat := if (cellOf v).getLsbD n then 1 else 0
    (ones (List.range 15) + bit 48) % 2 = 1 ∧
    (ones ((List.range 15).map (24 + ·)) + bit 49) % 2 = 1 ∧
    (ones ((List.range 9).map (39 + ·) ++ (List.range 9).map (15 + ·)) + bit 50) % 2 = 1 ∧
    badParity (cellOf v) = false ∧ dataOf (cellOf v) = v ∧
    ∀ n < 51, badParity (cellOf v ^^^ (1#51 <<< n)) = true

/-- The checked writes. In bounds, a word, or bits 38-24 or bits 14-00 of a word, are replaced, every other data bit
of it is as it was, and good parity stays good; out of bounds nothing is written and bit 42 is set (rule R67, R68;
the suppressed write is decision D16). -/
def Obligations.CheckedWrites : Prop :=
  ∀ (s : State) (a v : Addr) (w : Word), s.present a = true →
    (s.allowed a = true →
      (∃ t, storeWord s a w = .next t ∧ t.word a = w ∧ badParity (t.cell a) = false ∧ SameStorageBut a s t) ∧
      (∃ t, storeUpper s a v = .next t ∧ SameStorageBut a s t ∧
        (∀ n < 48, (t.word a).getLsbD n =
          if 24 ≤ n ∧ n < 39 then v.getLsbD (n - 24) else (s.word a).getLsbD n) ∧
        (badParity (s.cell a) = false → badParity (t.cell a) = false)) ∧
      (∃ t, storeLower s a v = .next t ∧ SameStorageBut a s t ∧
        (∀ n < 48, (t.word a).getLsbD n = if n < 15 then v.getLsbD n else (s.word a).getLsbD n) ∧
        (badParity (s.cell a) = false → badParity (t.cell a) = false))) ∧
    (s.allowed a = false →
      ∀ r ∈ [storeWord s a w, storeUpper s a v, storeLower s a v],
        r = .next { s with irLatch := setBit s.irLatch 42 })

/-! ## Operands -/

/-- Designators 0 and 7 name no index register: they read as 0 and a write through them is lost. The others name six
separate registers. A designator other than 7 reaches its own address at once, and modifies it unless it is 0
(rule R23, rule R99, rule R100). -/
def Obligations.IndexDesignators : Prop :=
  (∀ (r : IndexRegs) (b c : BitVec 3) (v : Addr),
    (b = 0 ∨ b = 7 → r.get b = 0 ∧ r.set b v = r) ∧
    (b ≠ 0 → b ≠ 7 → (r.set b v).get b = v) ∧ (c ≠ b → (r.set b v).get c = r.get c)) ∧
  (∀ (s : State) (b : BitVec 3) (m : Addr), b ≠ 7 → Reaches s b m b m s) ∧
  (∀ (s : State) (b : BitVec 3) (m : Addr), modified s 0 m = m ∧ (b ≠ 0 → modified s b m = ocAdd m (s.index b)))

/-- Indirect addressing takes the designator from bits 17-15 and the address from bits 14-00 of the word read, whose
bad parity is noted; where the designator is 7 it goes on from that word and address; a word that names itself makes the
instruction endless (rule R101, decision D3; file 93, U12). The model's limit on the length of a chain loses nothing: a chain that ends after any number of reads ends the same way
under it (assumption 13). -/
def Obligations.IndirectAddressing : Prop :=
  (∀ (s : State) (m : Addr), s.Quiet → s.present m = true →
    ((s.word m).extractLsb' 15 3 ≠ 7#3 →
      Reaches s 7 m ((s.word m).extractLsb' 15 3) ((s.word m).extractLsb' 0 15) (s.noteParity m)) ∧
    ((s.word m).extractLsb' 15 3 = 7#3 → (s.word m).extractLsb' 0 15 = m →
      exec (.lda 7 m) s = .next { s.noteParity m with run := .hung }) ∧
    (∀ (m2 : Addr) (b' : BitVec 3) (m' : Addr) (s' : State),
      (s.word m).extractLsb' 15 3 = 7#3 → (s.word m).extractLsb' 0 15 = m2 →
        (Reaches s 7 m b' m' s' ↔ Reaches (s.noteParity m) 7 m2 b' m' s'))) ∧
  (∀ (n : Nat) (s : State) (b : BitVec 3) (m : Addr) (b' : BitVec 3) (m' : Addr) (s' : State),
    s.Quiet → resolveFrom n b m s = .next (.done b' m' s') → Reaches s b m b' m' s')

/-- The adder: its overflow signal says exactly that the sum does not fit, when it fits it is the sum, when it does not
it is the sum less 2^48 - 1 in magnitude, and negative zero comes only from two negative zeros; the index adder is
correct modulo 2^15 - 1 (rule R11, which is decision D2; rule R12). -/
def Obligations.AdderMeaning : Prop :=
  (∀ x y : Word,
    (ovfAdd x y = true ↔ 2 ^ 47 ≤ (ocVal x + ocVal y).natAbs) ∧
    (ovfAdd x y = false → ocVal (ocAdd x y) = ocVal x + ocVal y) ∧
    (ovfAdd x y = true → ocVal (ocAdd x y) =
      if 0 < ocVal x + ocVal y then ocVal x + ocVal y - (2 ^ 48 - 1) else ocVal x + ocVal y + (2 ^ 48 - 1)) ∧
    (ocAdd x y = BitVec.allOnes 48 ↔ x = BitVec.allOnes 48 ∧ y = BitVec.allOnes 48)) ∧
  (∀ x y : Addr, (2 ^ 15 - 1) ∣ ocVal (ocAdd x y) - (ocVal x + ocVal y))

/-! ## Transmission -/

/-- LDA, LAC, LDQ and LQC: the word at M, as it is or complemented, or its magnitude where AUG asks for it, replaces A
or Q (rule R132 to R135, rule R281; what the magnitude is taken of is decision D46). -/
def Obligations.LoadWords : Prop :=
  ∀ (b : BitVec 3) (m : Addr) (s : State) (b' : BitVec 3) (m' : Addr) (s' : State), Reaches s b m b' m' s' →
    s'.present (modified s' b' m') = true →
    let x := s'.word (modified s' b' m')
    let t := s'.noteParity (modified s' b' m')
    exec (.lda b m) s = .next { t with a := s'.operand x }.advance ∧
    exec (.lac b m) s = .next { t with a := ~~~x }.advance ∧
    exec (.ldq b m) s = .next { t with q := s'.operand x }.advance ∧
    exec (.lqc b m) s = .next { t with q := ~~~x }.advance

/-- IAQ interchanges A and Q; ATI sends A14-00 to an index register; ENQ and ENA enter Y
with its sign extended; ENI enters y (rule R131, R145 to R148). -/
def Obligations.TransmitAndEnter : Prop :=
  (∀ s : State, exec .iaq s = .next { s with a := s.q, q := s.a }.advance) ∧
  (∀ (b : BitVec 3) (s : State), b ≠ 0 → b ≠ 7 →
    exec (.ati b) s = .next { s with b := s.b.set b (s.a.extractLsb' 0 15) }.advance) ∧
  (∀ (b : BitVec 3) (y : Addr) (s : State) (b' : BitVec 3) (y' : Addr) (s' : State), Reaches s b y b' y' s' →
    exec (.enq b y) s = .next { s' with q := (modified s' b' y').signExtend 48 }.advance ∧
    exec (.ena b y) s = .next { s' with a := (modified s' b' y').signExtend 48 }.advance ∧
    exec (.eni b y) s = .next { s' with b := s'.b.set b' y' }.advance)

/-- LIU and LIL: the upper or lower address portion of the word at m replaces the index register; with designator 0
only the reference is made (rule R138, R139, R140). -/
def Obligations.LoadIndex : Prop :=
  ∀ (b : BitVec 3) (m : Addr) (s : State) (b' : BitVec 3) (m' : Addr) (s' : State), Reaches s b m b' m' s' →
    s'.present m' = true →
    exec (.liu b m) s = .next (({ s'.noteParity m' with b := s'.b.set b' ((s'.word m').extractLsb' 24 15) } : State)).advance ∧
    exec (.lil b m) s = .next (({ s'.noteParity m' with b := s'.b.set b' ((s'.word m').extractLsb' 0 15) } : State)).advance

/-- STA, STQ and STL: A, Q (their magnitude where AUG asks for it) or the logical product of both replaces the word at
M; out of bounds only bit 42 is set (rule R136, R137, R198, R281, R460; decisions D16 and D46). -/
def Obligations.StoreWords : Prop :=
  ∀ (b : BitVec 3) (m : Addr) (s : State) (b' : BitVec 3) (m' : Addr) (s' : State), Reaches s b m b' m' s' →
    let e := modified s' b' m'
    (s'.allowed e = true → s'.present e = true →
      exec (.sta b m) s = .next (s'.setCell e (cellOf (s'.operand s'.a))).advance ∧
      exec (.stq b m) s = .next (s'.setCell e (cellOf (s'.operand s'.q))).advance ∧
      exec (.stl b m) s = .next (s'.setCell e (cellOf (s'.q &&& s'.a))).advance) ∧
    (s'.allowed e = false →
      ∀ i ∈ [Instr.sta b m, .stq b m, .stl b m],
        exec i s = .next ({ s' with irLatch := setBit s'.irLatch 42 } : State).advance)

/-- SIU, SIL, SAU and SAL: an index register (zero for designator 0) or A14-00 replaces the upper or the lower address
portion of a word; out of bounds only bit 42 is set (rule R141 to R144, R460; decision D16). -/
def Obligations.StoreFields : Prop :=
  ∀ (b : BitVec 3) (m : Addr) (s : State) (b' : BitVec 3) (m' : Addr) (s' : State), Reaches s b m b' m' s' →
    let e := modified s' b' m'
    let out : State := { s' with irLatch := setBit s'.irLatch 42 }
    let v := s'.a.extractLsb' 0 15
    (s'.allowed m' = true → s'.present m' = true →
      exec (.siu b m) s = .next (s'.setCell m' (replaceUpper (s'.index b') (s'.cell m'))).advance ∧
      exec (.sil b m) s = .next (s'.setCell m' (replaceLower (s'.index b') (s'.cell m'))).advance) ∧
    (s'.allowed e = true → s'.present e = true →
      exec (.sau b m) s = .next (s'.setCell e (replaceUpper v (s'.cell e))).advance ∧
      exec (.sal b m) s = .next (s'.setCell e (replaceLower v (s'.cell e))).advance) ∧
    (s'.allowed m' = false → exec (.siu b m) s = .next out.advance ∧ exec (.sil b m) s = .next out.advance) ∧
    (s'.allowed e = false → exec (.sau b m) s = .next out.advance ∧ exec (.sal b m) s = .next out.advance)

/-! ## Arithmetic -/

/-- ADD and SUB add the operand or its complement to A and set bit 03 on overflow; INA adds Y with its sign extended,
ADL and SBL the logical product of Q and the operand or its complement, and set bit 03 only where the installation
says so (rule R161, R162, R165, R196, R197, R281; the sum on overflow is decision D5, the instructions that set bit 03
D8, the magnitude D46). -/
def Obligations.AddAndSubtract : Prop :=
  ∀ (b : BitVec 3) (m : Addr) (s : State) (b' : BitVec 3) (m' : Addr) (s' : State), Reaches s b m b' m' s' →
    let e := modified s' b' m'
    let sum (t : State) (y : Word) (faults : Bool) : State :=
      { t with
        a := ocAdd s'.a y
        irLatch := if faults = true ∧ ovfAdd s'.a y = true then setBit t.irLatch 3 else t.irLatch }
    exec (.ina b m) s = .next (sum s' (e.signExtend 48) s'.params.ovfInaAdlSbl).advance ∧
    (s'.present e = true →
      let x := s'.word e
      let t := s'.noteParity e
      exec (.add b m) s = .next (sum t (s'.operand x) true).advance ∧
      exec (.sub b m) s = .next (sum t (~~~s'.operand x) true).advance ∧
      exec (.adl b m) s = .next (sum t (s'.q &&& x) s'.params.ovfInaAdlSbl).advance ∧
      exec (.sbl b m) s = .next (sum t (~~~(s'.q &&& x)) s'.params.ovfInaAdlSbl).advance)

/-- MUI leaves in QA the exact product of A and the operand; which zero a zero product is stays open (rule R163,
decision D7; the magnitude AUG may ask for is decision D46). -/
def Obligations.MultiplyInteger : Prop :=
  ∀ (b : BitVec 3) (m : Addr) (s : State) (b' : BitVec 3) (m' : Addr) (s' : State), Reaches s b m b' m' s' →
    s'.present (modified s' b' m') = true →
    let x := s'.operand (s'.word (modified s' b' m'))
    ∃ p : BitVec 96, ocVal p = ocVal s'.a * ocVal x ∧
      exec (.mui b m) s = .next
        { (s'.noteParity (modified s' b' m')).drawn 1 with q := p.extractLsb' 48 48, a := p.extractLsb' 0 48 }.advance

/-- DVI: when the divisor is not zero and the quotient fits, A has the quotient of QA truncated toward zero and Q the
remainder, a zero one with the dividend's sign; else bit 02 is set and A and Q hold some values (rule R164, decisions
D6, D7 and D46). -/
def Obligations.DivideInteger : Prop :=
  ∀ (b : BitVec 3) (m : Addr) (s : State) (b' : BitVec 3) (m' : Addr) (s' : State), Reaches s b m b' m' s' →
    s'.present (modified s' b' m') = true →
    let t := s'.noteParity (modified s' b' m')
    let d := ocVal (s'.operand (s'.word (modified s' b' m')))
    let n := ocVal (s'.q ++ s'.a)
    (d ≠ 0 → (n.tdiv d).natAbs < 2 ^ 47 →
      ∃ a q : Word, ocVal a = n.tdiv d ∧ ocVal q = n.tmod d ∧
        (n.tmod d = 0 → q = if s'.q.getLsbD 47 then BitVec.allOnes 48 else 0) ∧
        exec (.dvi b m) s = .next { t.drawn 1 with a := a, q := q }.advance) ∧
    (d = 0 ∨ 2 ^ 47 ≤ (n.tdiv d).natAbs →
      ∃ a q : Word,
        exec (.dvi b m) s = .next { t.drawn 2 with a := a, q := q, irLatch := setBit t.irLatch 2 }.advance)

/-- INI adds y to the index register in one's complement. ISK compares them: equal, the register is cleared and the
lower instruction skipped; else it counts up by one. IJP reduces a count that is not zero by one and jumps; a zero count,
or designator 0, lets the next instruction follow (rule R166, R167, R246; the adder, what zero is and what follows are
decisions D9, D10 and D42, the reduction out of bounds D16). -/
def Obligations.IndexArithmetic : Prop :=
  ∀ (b : BitVec 3) (y : Addr) (s : State) (b' : BitVec 3) (y' : Addr) (s' : State), Reaches s b y b' y' s' →
    let v := s'.index b'
    exec (.ini b y) s = .next { s' with b := s'.b.set b' (ocAdd y' v) }.advance ∧
    (v = y' → exec (.isk b y) s = .next { s' with b := s'.b.set b' 0, p := s'.p + 1, h := .upper }) ∧
    (v ≠ y' → exec (.isk b y) s = .next { s' with b := s'.b.set b' (ocAdd v 1) }.advance) ∧
    (s'.ret = none →
      let t : State := { s' with b := s'.b.set b' (BitVec.ofNat 15 (v.toNat - 1)) }
      (v ≠ 0 → s'.allowed y' = true → exec (.ijp b y) s = .next (t.atUpper y')) ∧
      (v ≠ 0 → s'.allowed y' = false →
        exec (.ijp b y) s = .next ({ t with irLatch := setBit t.irLatch 42 } : State).advance) ∧
      (v = 0 → exec (.ijp b y) s = .next s'.advance))

/-- With the option, FAD, FSB, FMU and FDV deliver what the installation's floating point function gives for A, the
operand and the augment designators, and its exponent faults set bits 04 and 05; a divide by zero sets bit 02
(rule R171 to R176, rule R281; the function is decision D40 and assumption 5). -/
def Obligations.FloatingOption : Prop :=
  ∀ (b : BitVec 3) (m : Addr) (s : State) (b' : BitVec 3) (m' : Addr) (s' : State), s.params.fpo = true →
    Reaches s b m b' m' s' → s'.present (modified s' b' m') = true →
    let t := s'.noteParity (modified s' b' m')
    let r (k : FpKind) := Config.fpOp k s'.augment s'.a (s'.word (modified s' b' m'))
    let ends (t : State) (r : FpResult) : State :=
      ({ (t.faultIf r.expOver 4).faultIf r.expUnder 5 with a := r.a, q := r.q } : State).advance
    exec (.fad b m) s = .next (ends t (r .fad)) ∧ exec (.fsb b m) s = .next (ends t (r .fsb)) ∧
    exec (.fmu b m) s = .next (ends t (r .fmu)) ∧
    exec (.fdv b m) s = .next (ends (t.faultIf (r .fdv).divZero 2) (r .fdv))

/-- Without the option, the operation codes 30 to 33 enter Category II: no operand is read, the place of the next
instruction is stored in word 00030 to 00033 and its half kept in the Exit flip-flop (rule R110, rule R450; that no
operand is sought is decision D31). -/
def Obligations.FloatingTrap : Prop :=
  ∀ (b : BitVec 3) (m : Addr) (s : State), s.params.fpo = false → s.Quiet →
    let after : Addr := if s.h = .upper then s.p else s.p + 1
    ∀ f ∈ [(Instr.fad b m, 0#2), (.fsb b m, 1#2), (.fmu b m, 2#2), (.fdv b m, 3#2)],
      s.enterable (0o30 + f.2.setWidth 15) after →
      exec f.1 s = .next
        (({ s with aug := none, catII := { mode := true, exit := decide (s.h = .upper), addr := f.2 } } : State).through
          (0o30 + f.2.setWidth 15) after)

/-! ## Logical instructions and shifts -/

/-- SST, SCM, SCL, SSU and LDL, bit by bit: a bit of the operand sets, complements or clears the bit of A, replaces it
where Q has a one, or is loaded where Q has a one (rule R191 to R195). -/
def Obligations.LogicalResults : Prop :=
  ∀ (b : BitVec 3) (m : Addr) (s : State) (b' : BitVec 3) (m' : Addr) (s' : State), Reaches s b m b' m' s' →
    s'.present (modified s' b' m') = true →
    let x := s'.word (modified s' b' m')
    let t := s'.noteParity (modified s' b' m')
    ∀ p ∈ [(Instr.sst b m, fun n => if x.getLsbD n then true else s'.a.getLsbD n),
        (.scm b m, fun n => if x.getLsbD n then !s'.a.getLsbD n else s'.a.getLsbD n),
        (.scl b m, fun n => if x.getLsbD n then false else s'.a.getLsbD n),
        (.ssu b m, fun n => if s'.q.getLsbD n then x.getLsbD n else s'.a.getLsbD n),
        (.ldl b m, fun n => if s'.q.getLsbD n then x.getLsbD n else false)],
      ∃ r : Word, exec p.1 s = .next { t with a := r }.advance ∧ ∀ n < 48, r.getLsbD n = p.2 n

/-- The shifts move A, Q or AQ by the low seven bits of K, right with the sign extended or left circular; a K above
177 octal also sets bit 01 (rule R199 to R206). -/
def Obligations.Shifts : Prop :=
  ∀ (b : BitVec 3) (k : Addr) (s : State) (b' : BitVec 3) (k' : Addr) (s' : State), Reaches s b k b' k' s' →
    let n := (modified s' b' k').toNat % 128
    let t : State := if 0o177 < (modified s' b' k').toNat then { s' with irLatch := setBit s'.irLatch 1 } else s'
    let aq := s'.a ++ s'.q
    (∃ r : Word, exec (.ars b k) s = .next { t with a := r }.advance ∧
      ∀ i < 48, r.getLsbD i = s'.a.getLsbD (if i + n < 48 then i + n else 47)) ∧
    (∃ r : Word, exec (.qrs b k) s = .next { t with q := r }.advance ∧
      ∀ i < 48, r.getLsbD i = s'.q.getLsbD (if i + n < 48 then i + n else 47)) ∧
    (∃ r : BitVec 96, exec (.lrs b k) s = .next { t with a := r.extractLsb' 48 48, q := r.extractLsb' 0 48 }.advance ∧
      ∀ i < 96, r.getLsbD i = aq.getLsbD (if i + n < 96 then i + n else 95)) ∧
    (∃ r : Word, exec (.als b k) s = .next { t with a := r }.advance ∧
      ∀ i < 48, r.getLsbD ((i + n) % 48) = s'.a.getLsbD i) ∧
    (∃ r : Word, exec (.qls b k) s = .next { t with q := r }.advance ∧
      ∀ i < 48, r.getLsbD ((i + n) % 48) = s'.q.getLsbD i) ∧
    (∃ r : BitVec 96, exec (.lls b k) s = .next { t with a := r.extractLsb' 48 48, q := r.extractLsb' 0 48 }.advance ∧
      ∀ i < 96, r.getLsbD ((i + n) % 96) = aq.getLsbD i)

/-- SCA and SCQ shift A or AQ left circularly by the fewest places that make its two top bits differ, or by the low
seven bits of k if fewer; either zero is not shifted; what is left of k goes to the index register (rule R207 to
R209). -/
def Obligations.Scaling : Prop :=
  ∀ (b : BitVec 3) (k : Addr) (s : State) (b' : BitVec 3) (k' : Addr) (s' : State), Reaches s b k b' k' s' →
    let c := k'.toNat % 128
    let left (j : Nat) : IndexRegs := s'.b.set b' (k'.extractLsb' 7 8 ++ BitVec.ofNat 7 (c - j))
    let aq := s'.a ++ s'.q
    (∃ j ≤ c,
      exec (.sca b k) s = .next { s' with a := s'.a.rotateLeft j, b := left j }.advance ∧
      (∀ i < j, (s'.a.rotateLeft i).getLsbD 47 = (s'.a.rotateLeft i).getLsbD 46) ∧
      (ocVal s'.a = 0 → j = 0) ∧
      (ocVal s'.a ≠ 0 → j < c → (s'.a.rotateLeft j).getLsbD 47 ≠ (s'.a.rotateLeft j).getLsbD 46)) ∧
    (∃ j ≤ c,
      exec (.scq b k) s = .next
        { s' with a := (aq.rotateLeft j).extractLsb' 48 48, q := (aq.rotateLeft j).extractLsb' 0 48, b := left j }.advance ∧
      (∀ i < j, (aq.rotateLeft i).getLsbD 95 = (aq.rotateLeft i).getLsbD 94) ∧
      (ocVal aq = 0 → j = 0) ∧
      (ocVal aq ≠ 0 → j < c → (aq.rotateLeft j).getLsbD 95 ≠ (aq.rotateLeft j).getLsbD 94))

/-! ## Replace, storage tests and searches -/

/-- RAD, RSB, RAO and RSO: the operand plus A, minus A, plus one or minus one goes to A and to its location, and an
overflow sets bit 03; out of bounds A still has the result, storage is unchanged and bit 42 is set (rule R220 to
R224, decision D16). No other agent acts between the two references. -/
def Obligations.ReplaceResults : Prop :=
  ∀ (b : BitVec 3) (m : Addr) (s : State) (b' : BitVec 3) (m' : Addr) (s' : State), Reaches s b m b' m' s' →
    s'.Quiet → s'.present (modified s' b' m') = true →
    let e := modified s' b' m'
    let x := s'.word e
    ∀ p ∈ [(Instr.rad b m, s'.a), (.rsb b m, ~~~s'.a), (.rao b m, 1#48), (.rso b m, ~~~1#48)],
      let t : State := { (s'.noteParity e).faultIf (ovfAdd x p.2) 3 with a := ocAdd x p.2 }
      (s'.allowed e = true → exec p.1 s = .next (t.setCell e (cellOf (ocAdd x p.2))).advance) ∧
      (s'.allowed e = false → exec p.1 s = .next ({ t with irLatch := setBit t.irLatch 42 } : State).advance)

/-- SSK skips the lower instruction if the word at M is negative; SSH also shifts that word left circularly by one
place, unless it is out of bounds (decision D16). In the lower position a skip is the next instruction (rule R108,
R225, R226). -/
def Obligations.StorageTests : Prop :=
  (∀ (b : BitVec 3) (m : Addr) (s : State) (b' : BitVec 3) (m' : Addr) (s' : State), Reaches s b m b' m' s' →
    s'.present (modified s' b' m') = true →
    let e := modified s' b' m'
    let x := s'.word e
    let t := s'.noteParity e
    let goOn (t : State) : State := if x.getLsbD 47 = true then { t with p := t.p + 1, h := .upper } else t.advance
    exec (.ssk b m) s = .next (goOn t) ∧
    (s'.Quiet → s'.allowed e = true → exec (.ssh b m) s = .next (goOn (t.setCell e (cellOf (x.rotateLeft 1))))) ∧
    (s'.Quiet → s'.allowed e = false →
      exec (.ssh b m) s = .next (goOn { t with irLatch := setBit t.irLatch 42 }))) ∧
  (∀ s : State, s.h = .lower → s.skip = s.advance)

/-- The searches. With a count in an index register, the list is examined from its last word down, and the search ends
at the first word met that is equal to A, greater than A, or whose masked value is, with its place in the register and
a skip; or, the count used up, without one. With designator 0 the one word at m is examined (rule R230 to R234; what
a zero count is, and its reduction, are decisions D9 and D10). -/
def Obligations.Searches : Prop :=
  ∀ (b : BitVec 3) (m : Addr) (s : State) (b' : BitVec 3) (m' : Addr) (s' : State), Reaches s b m b' m' s' →
    s'.Quiet → GoodParity s' → (∀ a, s'.present a = true) →
    let above (x : Word) : Bool :=
      decide (ocVal s'.a < ocVal x) || (decide (x = 0) && decide (s'.a = BitVec.allOnes 48))
    ∀ p ∈ [(Instr.eqs b m, fun x => decide (ocVal x = ocVal s'.a)), (.ths b m, above),
        (.meq b m, fun x => decide (ocVal (s'.q &&& x) = ocVal s'.a)), (.mth b m, fun x => above (s'.q &&& x))],
      (b' ≠ 0 → SearchEnds p.1 p.2 b' m' s s') ∧
      (b' = 0 → exec p.1 s = .next (if p.2 (s'.word m') = true then s'.skip else s'.advance))

/-! ## Jumps and stops -/

/-- The normal jumps: with their condition, P is m and the upper instruction is next, or, m out of bounds, bit 42 is
set and the next instruction follows; without it the next instruction follows (rule R240, R242, R244, R247, R251). -/
def Obligations.NormalJumps : Prop :=
  ∀ (j : BitVec 2) (m : Addr) (s : State), s.ret = none →
    ∀ p ∈ [(Instr.ajp j m, JumpTest j s.a), (.qjp j m, JumpTest j s.q), (.slj m, True),
        (.sj1 m, s.console.jump1 = true), (.sj2 m, s.console.jump2 = true), (.sj3 m, s.console.jump3 = true)],
      (p.2 → s.allowed m = true → exec p.1 s = .next (s.atUpper m)) ∧
      (p.2 → s.allowed m = false → exec p.1 s = .next ({ s with irLatch := setBit s.irLatch 42 } : State).advance) ∧
      (¬p.2 → exec p.1 s = .next s.advance)

/-- The return jumps: with their condition, P + 1 is stored in the upper address portion of word m and its lower
instruction is next, or, m out of bounds, neither is done and bit 42 is set; without it the next instruction follows
(rule R241, R243, R245, R248, R251, R460). That out of bounds the store is not made either is decision D16
(assumption 32). -/
def Obligations.ReturnJumps : Prop :=
  ∀ (j : BitVec 2) (m : Addr) (s : State), s.Quiet →
    ∀ p ∈ [(Instr.arj j m, JumpTest j s.a), (.qrj j m, JumpTest j s.q), (.rtj m, True),
        (.rj1 m, s.console.jump1 = true), (.rj2 m, s.console.jump2 = true), (.rj3 m, s.console.jump3 = true)],
      (p.2 → s.allowed m = true → s.enterable m (s.p + 1) → exec p.1 s = .next (s.through m (s.p + 1))) ∧
      (p.2 → s.allowed m = false → exec p.1 s = .next ({ s with irLatch := setBit s.irLatch 42 } : State).advance) ∧
      (¬p.2 → exec p.1 s = .next s.advance)

/-- The selective stops: with their condition, the computer stops with P and H unchanged; without it the jump or return
jump is made at once, or, m out of bounds, bit 42 is set and the next instruction follows. A Stop switch counts only in
maintenance mode (rule R249, R250, R251, R460, R474, decision D34; the return jump out of bounds, store and all, is
decision D16). -/
def Obligations.SelectiveStops : Prop :=
  ∀ (m : Addr) (s : State),
    let sw (on : Bool) : Prop := s.console.maint = true ∧ on = true
    let out : State := { s with irLatch := setBit s.irLatch 42 }
    (∀ p ∈ [(Instr.sls m, True), (.ss1 m, sw s.console.stop1), (.ss2 m, sw s.console.stop2), (.ss3 m, sw s.console.stop3)],
      (p.2 → exec p.1 s = .next { s with run := .stopped (.sls false m false) }) ∧
      (¬p.2 → s.ret = none → s.allowed m = true → exec p.1 s = .next (s.atUpper m)) ∧
      (¬p.2 → s.ret = none → s.allowed m = false → exec p.1 s = .next out.advance)) ∧
    (∀ p ∈ [(Instr.srj m, True), (.sr1 m, sw s.console.stop1), (.sr2 m, sw s.console.stop2), (.sr3 m, sw s.console.stop3)],
      (p.2 → exec p.1 s = .next { s with run := .stopped (.sls true m false) }) ∧
      (¬p.2 → s.allowed m = true → s.Quiet → s.enterable m (s.p + 1) → exec p.1 s = .next (s.through m (s.p + 1))) ∧
      (¬p.2 → s.allowed m = false → exec p.1 s = .next out.advance))

/-- The Go switch: the jump or return jump of a selective stop is made, or, m out of bounds, bit 42 is set and the next
instruction follows, and the instruction ends; after an instruction parity stop a pending interrupt is taken first, and
else the word is read again (rule R251, rule R252, rule R456, decision D35; the return jump out of bounds is decision
D16; file 93, U18). That the computer then stops
if System Active went Off during the selective stop is the model's choice (assumption 28). -/
def Obligations.GoSwitch : Prop :=
  (∀ (s : State) (m : Addr) (off : Bool), s.switchesLive = true →
    let r : State := { s with run := .running }
    let out : State := { r with irLatch := setBit s.irLatch 42 }
    let ended (t : State) : Host.Outcome State Fault Refusal :=
      andThen (finish s.h t) fun u => .next (if off = true then { u with run := .stopped .systemInactive } else u)
    (s.run = .stopped (.sls false m off) → s.ret = none →
      (s.allowed m = true → deliver .go s = ended (r.atUpper m)) ∧
      (s.allowed m = false → deliver .go s = ended out.advance)) ∧
    (s.run = .stopped (.sls true m off) →
      (s.allowed m = true → s.Quiet → s.enterable m (s.p + 1) → deliver .go s = ended (r.through m (s.p + 1))) ∧
      (s.allowed m = false → deliver .go s = ended out.advance))) ∧
  (∀ s : State, s.switchesLive = true → s.run = .stopped .instructionParity → s.h = .upper →
    let r : State := { s with run := .running }
    (r.interruptPending = true → deliver .go s = enterCategoryI r) ∧
    (r.interruptPending = false → deliver .go s = .next r))

/-! ## Characters and internal control -/

/-- LDC loads the six bits of the word at M that the selector names, and STC replaces them by A05-00 and leaves the
others; both go on at P + 1 (rule R260, rule R261). Out of bounds STC stores nothing (decision D16). No other agent
acts between the two references. -/
def Obligations.Characters : Prop :=
  ∀ (b v : BitVec 3) (m : Addr) (s : State),
    let n := (s.index v).toNat
    v ≠ 0 → v ≠ 7 → n ∈ [0, 6, 12, 18, 24, 30, 36, 42] → s.Quiet →
      ∀ (b' : BitVec 3) (m' : Addr) (s' : State), Reaches s b m b' m' s' →
        s'.present (modified s' b' m') = true →
        let e := modified s' b' m'
        let x := s'.word e
        let t := s'.noteParity e
        (∃ r : Word, exec (.ldc b v m) s = .next { t with a := r, p := t.p + 1, h := .upper } ∧
          ∀ i < 48, r.getLsbD i = (decide (i < 6) && x.getLsbD (n + i))) ∧
        (s'.allowed e = true → ∃ r : Word,
          exec (.stc b v m) s = .next { t.setCell e (cellOf r) with p := t.p + 1, h := .upper } ∧
          ∀ i < 48, r.getLsbD i = if n ≤ i ∧ i < n + 6 then s'.a.getLsbD (i - n) else x.getLsbD i) ∧
        (s'.allowed e = false →
          exec (.stc b v m) s = .next { t with irLatch := setBit t.irLatch 42, p := t.p + 1, h := .upper })

/-- What each code of INF does (rule R266 to R276), those of the time interrupt apart (`Obligations.OutsideConditions`).
That 00602 clears the time latch is decision D20, that 00522 and 00532 clear bits 45 and 46 is rule R38's inference. -/
def Obligations.InternalFunctions : Prop :=
  ∀ s : State,
    let does (code : Nat) (t : State) : Prop := exec (.inf (BitVec.ofNat 15 code)) s = .next t.advance
    let maskOn (n : Nat) : Word := setBit s.im n
    let maskOff (n : Nat) : Word := clearBit s.im n
    let irOff (n : Nat) : Word := clearBit s.irLatch n
    (∀ x < 4,
      does (0o00000 + 8 * x) { s with im := maskOn (10 + x), irLatch := irOff (10 + x) } ∧
      does (0o00001 + 8 * x) { s with im := maskOff (10 + x), irLatch := irOff (10 + x) } ∧
      does (0o00200 + 8 * x) { s with im := maskOn (30 + x) } ∧
      does (0o00201 + 8 * x) { s with im := maskOff (30 + x) } ∧
      does (0o00300 + 8 * x) { s with im := maskOn (20 + x) } ∧
      does (0o00301 + 8 * x) { s with im := maskOff (20 + x) }) ∧
    (∀ n ∈ [1, 2, 3, 4, 5],
      does (0o00400 + 8 * n) { s with im := maskOn n } ∧
      does (0o00401 + 8 * n) { s with im := maskOff n } ∧
      does (0o00402 + 8 * n) { s with irLatch := irOff n }) ∧
    does 0o00400 { s with irLatch := irOff 1 &&& irOff 2 &&& irOff 3 &&& irOff 4 &&& irOff 5 } ∧
    does 0o00110 { s with catI := { s.catI with exit := true } } ∧
    does 0o00111 { s with catI := { s.catI with exit := false } } ∧
    does 0o00120 { s with catII := { s.catII with exit := true } } ∧
    does 0o00121 { s with catII := { s.catII with exit := false } } ∧
    does 0o00510 { s with im := maskOn 43, irLatch := irOff 43 } ∧
    does 0o00511 { s with im := maskOff 43, irLatch := irOff 43 } ∧
    does 0o00520 { s with im := maskOn 45 } ∧ does 0o00521 { s with im := maskOff 45 } ∧
    does 0o00522 { s with irLatch := irOff 45 } ∧
    does 0o00530 { s with im := maskOn 46 } ∧ does 0o00531 { s with im := maskOff 46 } ∧
    does 0o00532 { s with irLatch := irOff 46 } ∧
    does 0o00540 { s with im := maskOn 42, irLatch := irOff 42 } ∧
    does 0o00541 { s with im := maskOff 42, irLatch := irOff 42 } ∧
    does 0o00600 { s with active := true } ∧ does 0o00601 { s with active := false } ∧
    does 0o00602 { s with irLatch := 0, im := 0, active := false, timeLatch := false }

/-- SEN in the upper position skips on the condition of its code, and in the lower position it is a pass; CIS and
CPR copy the Interrupt register and its product with the mask to A, with the unused
bits clear (rule R277, R278, R279). -/
def Obligations.SenseAndCopy : Prop :=
  ∀ s : State,
    (s.h = .upper →
      let senses (code : Nat) (c : Bool) : Prop :=
        exec (.sen (BitVec.ofNat 15 code)) s = .next (if c = true then { s with p := s.p + 1 } else { s with h := .lower })
      (∀ x < 4, senses (8 * x) !(s.channel x).act ∧ senses (8 * x + 1) (s.channel x).act) ∧
      senses 0o110 s.catI.exit ∧ senses 0o111 !s.catI.exit ∧ senses 0o120 s.catII.exit ∧ senses 0o121 !s.catII.exit ∧
      senses 0o210 s.catI.mode ∧ senses 0o211 !s.catI.mode ∧ senses 0o220 s.catII.mode ∧ senses 0o221 !s.catII.mode) ∧
    (s.h = .lower → ∀ y : Addr, exec (.sen y) s = .next s.advance) ∧
    (∀ y : Addr, exec (.cis y) s = .next { s with a := s.ir }.advance) ∧
    (∀ y : Addr, exec (.cpr y) s = .next { s with a := s.ir &&& s.im }.advance) ∧
    (∀ n, n ∉ [1, 2, 3, 4, 5, 10, 11, 12, 13, 20, 21, 22, 23, 30, 31, 32, 33, 42, 43, 44, 45, 46] →
      s.ir.getLsbD n = false)

/-- AUG in the upper position modifies the lower instruction's address in U by its designator v and keeps its
designators t for it; in the lower position it is a pass. A kept t2 makes the operand a magnitude (rule R280, R281;
the places of v and t are parameters, decision D14; indirection is decision D43, the magnitude D46). -/
def Obligations.Augment : Prop :=
  (∀ (y : Addr) (s : State), s.h = .lower → exec (.aug y) s = .next s.advance) ∧
  (∀ (y : Addr) (s : State) (b' : BitVec 3) (m' : Addr) (s' : State), s.h = .upper → s.Quiet →
    Reaches s (y.extractLsb' s.params.augVLo.val 3) (s.u.extractLsb' 0 15) b' m' s' →
    exec (.aug y) s = .next
      { s' with
        u := s'.u.extractLsb' 15 33 ++ modified s' b' m'
        aug := some (y.extractLsb' s'.params.augTLo.val 3)
        h := .lower }) ∧
  (∀ (s : State) (x : Word),
    ((s.h = .upper ∨ s.aug = none) → s.operand x = x) ∧
    (∀ t : BitVec 3, s.h = .lower → s.aug = some t →
      ocVal (s.operand x) = if t.getLsbD 2 = true then ((ocVal x).natAbs : Int) else ocVal x))

/-- EUB and ELB load the bounds registers from the installation's eight bits of y, the upper eight by default, and
while bounds checking is in effect are illegal and enter Category III (rule R285, R286, R287; which bits is decision
D15, the address stored D31). -/
def Obligations.EnterBounds : Prop :=
  ∀ (y : Addr) (s : State),
    let v : BitVec 8 := if s.params.boundsLow = true then y.extractLsb' 0 8 else y.extractLsb' 7 8
    let checking : Prop := s.active = true ∧ s.im.getLsbD 42 = true
    (¬checking → exec (.eub y) s = .next { s with bu := v }.advance ∧ exec (.elb y) s = .next { s with bl := v }.advance) ∧
    (checking → s.Quiet → s.enterable 0o20 (s.p + 1) →
      exec (.eub y) s = .next (({ s with aug := none } : State).through 0o20 (s.p + 1)) ∧
      exec (.elb y) s = .next (({ s with aug := none } : State).through 0o20 (s.p + 1)))

/-- An illegal code, in either position, stores P + 1 in word 00020 and goes on at its lower instruction (rule R453; the
same address from either half is decision D31). -/
def Obligations.IllegalTrap : Prop :=
  ∀ (i : Instr) (s : State), isIllegal i = true → s.Quiet → s.enterable 0o20 (s.p + 1) →
    exec i s = .next (({ s with aug := none } : State).through 0o20 (s.p + 1))

/-- The codes and operands the spec calls undefined: code 62, ATI with designator 0 or 7, INF and SEN with a code not
in their tables, LDC and STC with a selector not in theirs, and a channel not installed; and the codes no instruction
has, which the decoder refuses and the step with it: 00 but IAQ and ATI, 63 but LDC and STC, 63 and 74 in a lower half,
and Class III with a bit set that it does not use. That the model stops there is the spec's choice (rule R107 (a) to
(g), decisions D4, D29 and D39; file 93, U1 to U8). -/
def Obligations.UndefinedStops : Prop :=
  (∀ w : HalfWord, w.extractLsb' 18 6 = 0 → w ≠ 0o00700554 → w.extractLsb' 3 21 ≠ 0o0074054 →
    ∃ e, decodeHalf w = .error e) ∧
  (∀ u : Word, u.extractLsb' 42 6 = 0o63 → u.extractLsb' 15 21 ≠ 0o0006500 → u.extractLsb' 15 21 ≠ 0o0006505 →
    ∃ e, decodeUpper u = .error e) ∧
  (∀ u : Word, u.extractLsb' 18 6 = 0o63 ∨ u.extractLsb' 18 6 = 0o74 → ∃ e, decodeLower u = .error e) ∧
  (∀ u : Word, u.extractLsb' 42 6 = 0o74 → u.extractLsb' 39 3 ≠ 7 →
    (u.extractLsb' 21 3 ≠ 0 ∨ u.extractLsb' 15 3 ≠ 0 ∨
      ((u.extractLsb' 39 3 = 0 ∨ u.extractLsb' 39 3 = 1) ∧ u.extractLsb' 12 3 ≠ 0)) →
    ∃ e, decodeUpper u = .error e) ∧
  (∀ (s : State) (e : DecodeError), s.Alone → s.run = .running →
    (s.h = .upper → s.present s.p = true → badParity (s.cell s.p) = false → decodeUpper (s.word s.p) = .error e →
      step s = .refused (.undefinedEncoding e)) ∧
    (s.h = .lower → decodeLower s.u = .error e → step s = .refused (.undefinedEncoding e))) ∧
  ∀ s : State,
    (∀ r : BitVec 18, exec (.undef62 r) s = .refused .undefinedCode62) ∧
    (∀ b : BitVec 3, b = 0 ∨ b = 7 → exec (.ati b) s = .refused .undefinedIndex) ∧
    (∀ y : Addr, y.toNat ∉ infCodes → exec (.inf y) s = .refused (.undefinedFunction y)) ∧
    (∀ y : Addr, s.h = .upper → y.toNat ∉ senCodes → exec (.sen y) s = .refused (.undefinedSense y)) ∧
    (∀ (b v : BitVec 3) (m : Addr),
      v = 0 ∨ v = 7 ∨ (s.index v).toNat ∉ [0, 6, 12, 18, 24, 30, 36, 42] →
        exec (.ldc b v m) s = .refused .undefinedSelector ∧ exec (.stc b v m) s = .refused .undefinedSelector) ∧
    (∀ (n : Addr) (x : BitVec 3) (c : Byte12) (m : Addr), s.params.nchan ≤ x.toNat →
      ∀ i ∈ [Instr.conn n x c, .extf n x c, .begr n x m, .begw n x m, .copy n x m, .clch n x m, .ccwd n x m],
        exec i s = .refused .channelNotInstalled)

/-! ## Input and output -/

/-- CONN and EXTF on a channel that is idle: answered by a Reply they connect, or perform the function, and go on at P
+ 1; else, or on a busy channel, they take the reject jump (rule R306, R310, R311). A code with bad parity is answered
by nothing, and sets the I/O Parity Error bit if it is a function code and leaves it if it is a connect code (rule R331
cases 1 and 2; that a bad function code sets it for a printer too is the model's choice, assumption 11, against rule
R363). That until a clear no other code is answered (`blocked`), and that CONNECTED[x] and every connection are then
left as they were, is the model's choice (assumption 11): rule R331 only asks a clear "to initiate operation". A 3682
of the number of such a connect code keeps a Parity Error signal (rule R395; that the signal is kept there is
assumption 19). A typewriter that is on replies to a connect code of its number (rule R352), and an equipment of any
other number drops its connection, a tape control that of its unit too (rule R351, R378), but for a typewriter with a
transmission error not cleared (rule R352). How each equipment answers is the model's choice within decision D33
(assumptions 18 to 21). -/
def Obligations.ConnectAndFunction : Prop :=
  ∀ (n : Addr) (x : BitVec 3) (c : Byte12) (s : State), x.toNat < s.params.nchan → s.ret = none →
    let ch := s.channel x.toNat
    (ch.act = true →
      exec (.conn n x c) s = .next (s.rejectedTo n) ∧ exec (.extf n x c) s = .next (s.rejectedTo n)) ∧
    (ch.act = false → countNumber (c.extractLsb' 9 3) ch.equips ≤ 1 →
      (ch.blocked = true → exec (.conn n x c) s = .next (s.rejectedTo n)) ∧
      (ch.blocked = false → ch.codeFault = true → exec (.conn n x c) s = .next
        ((s.setChannel x.toNat
          { ch with
            codeFault := false
            blocked := true
            equips := ch.equips.map fun e => match e.device with
              | .coupler d =>
                if e.number = c.extractLsb' 9 3 then { e with device := .coupler { d with paritySignal := true } } else e
              | _ => e }).rejectedTo n)) ∧
      (ch.blocked = false → ch.codeFault = false →
        let r := connectAll x.toNat c ch.equips
        (r.1 = .reply → exec (.conn n x c) s = .next
          { s.putChannel x.toNat { ch with connected := some c, equips := r.2 } with p := s.p + 1, h := .upper }) ∧
        (r.1 = .silent → exec (.conn n x c) s = .next
          ((s.putChannel x.toNat { ch with connected := none, equips := r.2 }).rejectedTo n)) ∧
        (r.1 = .reject → ∃ k, (k = ch.connected ∨ k = none) ∧ exec (.conn n x c) s = .next
          ((s.putChannel x.toNat { ch with connected := k, equips := r.2 }).rejectedTo n)))) ∧
    (ch.act = false →
      (ch.connected = none ∨ ch.blocked = true → exec (.extf n x c) s = .next (s.rejectedTo n)) ∧
      (ch.connected ≠ none → ch.blocked = false → ch.codeFault = true → exec (.extf n x c) s = .next
        (({ s.setChannel x.toNat { ch with codeFault := false, blocked := true } with
            irLatch := setBit s.irLatch (20 + x.toNat) } : State).rejectedTo n)) ∧
      (ch.connected ≠ none → ch.blocked = false → ch.codeFault = false →
        let r := functionAll x.toNat (s.free 0) c ch.equips
        let t := (s.putChannel x.toNat { ch with equips := r.2 }).drawn 1
        (r.1 = .reply → exec (.extf n x c) s = .next { t with p := s.p + 1, h := .upper }) ∧
        (r.1 ≠ .reply → exec (.extf n x c) s = .next (t.rejectedTo n)))) ∧
    (∀ (d : Typewriter) (e : Equipment), e.device = .typewriter d →
      (e.number = c.extractLsb' 9 3 → d.on = true →
        connectAll x.toNat c [e] = (.reply, [{ e with connected := true, gated := false }])) ∧
      (e.number ≠ c.extractLsb' 9 3 → d.transmissionError = true →
        connectAll x.toNat c [e] = (.silent, [e]))) ∧
    (∀ e : Equipment, e.number ≠ c.extractLsb' 9 3 → (∀ d, e.device = .typewriter d → d.transmissionError = false) →
      connectAll x.toNat c [e] = (.silent,
        [{ e with
          connected := false
          gated := false
          device := match e.device with
            | .tape d => .tape { d with unit := none }
            | d => d }]))

/-- BEGR and BEGW on an idle channel load its control word from m, make it active in their direction and go on at
P + 1; on a busy channel they take the reject jump (rule R306, R312, R313, R314, R318; the moment of the fetch and the
layout are decision D32). While a transmission parity condition is uncleared the operation they begin moves nothing
(rule R331; that it begins is the model's choice, assumption 11). -/
def Obligations.BeginOperation : Prop :=
  (∀ (n : Addr) (x : BitVec 3) (m : Addr) (s : State), x.toNat < s.params.nchan →
    let ch := s.channel x.toNat
    (ch.act = true → s.ret = none →
      exec (.begr n x m) s = .next (s.rejectedTo n) ∧ exec (.begw n x m) s = .next (s.rejectedTo n)) ∧
    (ch.act = false → s.present m = true →
      let w := s.word m
      let t := (s.noteParity m).faultIf (badParity (s.cell m)) (20 + x.toNat)
      ∀ p ∈ [(Instr.begr n x m, Direction.read), (.begw n x m, .write)],
        exec p.1 s = .next
          { t.putChannel x.toNat
              { ch with
                wc := w.extractLsb' 24 15
                ad := w.extractLsb' 0 15
                act := true
                dir := p.2
                asm := []
                out := []
                fullCount := decide (w.extractLsb' 24 15 = 0) && s.params.wcZeroFull
                stalled := ch.blocked
                equips := if ch.blocked then ch.equips else mapConnected (deviceBegin x.toNat p.2) ch.equips } with
            p := s.p + 1
            h := .upper })) ∧
  (∀ (s : State) (x : Nat) (b : Byte12) (bad : Bool), (s.channel x).stalled = true →
    channelCycle s x = .next s ∧ inputByte s x b = .next s ∧ acceptByte s x bad = .next s ∧ endOfRecord s x = .next s)

/-- COPY puts the control word of a channel in A and its status and interrupt lines in Q; CCWD interchanges the control
word with A; CLCH clears the control word, the connection, the activity, the equipments and the I/O Parity Error bit.
None is ever rejected (rule R315, R316, R317; the place of the lines and the layout are decisions D28 and D32, the
cleared parity bit D37). -/
def Obligations.ChannelInstructions : Prop :=
  ∀ (n : Addr) (x : BitVec 3) (m : Addr) (s : State), x.toNat < s.params.nchan →
    let ch := s.channel x.toNat
    let control : Word := 0#9 ++ ch.wc ++ 0#9 ++ ch.ad
    exec (.copy n x m) s = .next
      { s with
        a := control
        q := 0#16 ++ interruptLines x.toNat ch.equips ++ 0#12 ++ statusLines x.toNat ch.op ch.equips
        p := s.p + 1
        h := .upper } ∧
    exec (.ccwd n x m) s = .next
      { s.setChannel x.toNat
          { ch with wc := s.a.extractLsb' 24 15, ad := s.a.extractLsb' 0 15, fullCount := false } with
        a := control
        p := s.p + 1
        h := .upper } ∧
    exec (.clch n x m) s = .next
      { s.putChannel x.toNat
          { ch with
            wc := 0
            ad := 0
            act := false
            connected := none
            asm := []
            out := []
            fullCount := false
            blocked := false
            stalled := false
            equips := clearAll x.toNat ch.op .channel ch.equips } with
        irLatch := clearBit s.irLatch (20 + x.toNat)
        p := s.p + 1
        h := .upper }

/-- The controls of a printer, and the two channels of a card punch or reader, share one machine: reserved, while nobody
has it, through one channel, it rejects a CONN on the other, which its status shows there (rule R360, R361, R364, R400, R401, R402, R409,
R410; that the sides share the machine's state at once is assumption 26). -/
def Obligations.SharedMachines : Prop :=
  ∀ (s : State) (x y k : Nat) (n n' : BitVec 3) (c c' : Byte12), x < 4 → y < 4 → x ≠ y →
    c.extractLsb' 9 3 = n → c'.extractLsb' 9 3 = n' →
    (s.channel x).blocked = false → (s.channel x).codeFault = false →
    (s.channel y).blocked = false → (s.channel y).codeFault = false →
    ∀ p : Device, (∃ d : Printer, p = .printer d ∧ d.machine = {}) ∨
        (∃ d : CardPunch, p = .cardPunch d ∧ d.holder = .free ∧ d.user = none) ∨
        (∃ d : CardReader, p = .cardReader d ∧ d.holder = .free ∧ d.user = none) →
      (s.channel x).equips = [{ number := n, machine := some k, device := p }] →
      (s.channel y).equips = [{ number := n', machine := some k, device := p }] →
      let r := connectChannel s x c
      let q := connectChannel r.2 y c'
      r.1 = .reply ∧ q.1 = .reject ∧
        (statusLines y none (q.2.channel y).equips).getLsbD 11 = true ∧
        (statusLines x none (q.2.channel x).equips).getLsbD 11 = false

/-- An active channel stores four bytes received as one word, the first in its highest bits, or, under Reverse Assembly,
in its lowest, counts it, and goes on; for output it reads the word at its address, counts it, and has its four bytes to
send, highest first. Whatever a channel does in an operation, the sum of its word count and address stays the same
(rule R301, R319, R320, R380; when a word sent is counted is decision D32, the unchecked store D44). -/
def Obligations.ChannelMovesWords : Prop :=
  (∀ (s : State) (x : Nat), x < 4 →
    let ch := s.channel x
    s.present ch.ad = true → ch.wc ≠ 0 ∨ ch.fullCount = true →
    (∀ b0 b1 b2 b3 : Byte12, ch.op = some .read → ch.asm = [] → ch.dataFault = false → ch.wc ≠ 1 →
      receive x [.data b0, .data b1, .data b2, .data b3] s = .next
        ((s.setCell ch.ad (cellOf (if ch.reverse then b3 ++ b2 ++ b1 ++ b0 else b0 ++ b1 ++ b2 ++ b3))).setChannel x
          { ch with ad := ch.ad + 1, wc := ch.wc - 1, asm := [], fullCount := false })) ∧
    (ch.op = some .write → ch.out = [] →
      let w := s.word ch.ad
      channelCycle s x = .next
        (((s.noteParity ch.ad).faultIf (badParity (s.cell ch.ad)) (20 + x)).setChannel x
          { ch with
            out := [w.extractLsb' 36 12, w.extractLsb' 24 12, w.extractLsb' 12 12, w.extractLsb' 0 12]
            ad := ch.ad + 1
            wc := ch.wc - 1
            fullCount := false }))) ∧
  (∀ (s t : State) (x y : Nat) (b : Byte12) (bad : Bool), x < 4 → y < 4 →
    (channelCycle s x = .next t ∨ inputByte s x b = .next t ∨ acceptByte s x bad = .next t ∨ endOfRecord s x = .next t) →
    (t.channel y).wc + (t.channel y).ad = (s.channel y).wc + (s.channel y).ad)

/-- The end of an operation: the channel is inactive, its equipment stays connected and sees its signal drop, and its
channel-inactive bit is set if that is selected or latched unmasked (rule R321, rule R433, decision D18); an auto-load
has then its record in (rule R488). It comes with the last word stored, with the last byte of the last word sent, and
with End of Record; a word partly assembled is then dropped, or stored with bytes of any value in the places not
received (file 93, U16). A count of zero at the start ends it at once unless it stands for 2^15 words (rule R321). That
a count of zero that CCWD has set in the middle of a word (rule R317) drops that word, and that an End of Record before
the channel's next step may still store it, the count going on to 77777, is the model's choice (assumption 23). -/
def Obligations.EndOfOperation : Prop :=
  ∀ (s : State) (x : Nat), x < 4 →
    let ch := s.channel x
    let ended (t : State) (c : Channel) : State :=
      { t.putChannel x
          { c with act := false, asm := [], out := [], fullCount := false,
                   equips := mapConnected (deviceEnd x c.dir) c.equips } with
        irLatch := if t.im.getLsbD (10 + x) = true ∨ t.params.latchUnmasked = true then setBit t.irLatch (10 + x)
          else t.irLatch
        run := if (∃ y : Fin 4, y.val = x ∧ t.run = .loading y) then .loaded else t.run }
    let word (l : List Byte12) : Word :=
      if ch.reverse then l.getD 3 0 ++ l.getD 2 0 ++ l.getD 1 0 ++ l.getD 0 0
      else l.getD 0 0 ++ l.getD 1 0 ++ l.getD 2 0 ++ l.getD 3 0
    let wrote : Channel := { ch with ad := ch.ad + 1, wc := ch.wc - 1, asm := [], fullCount := false }
    (∀ (l : List Byte12) (b : Byte12), ch.op = some .read → ch.asm = l → l.length = 3 → ch.wc = 1 →
      ch.dataFault = false → s.present ch.ad = true →
      inputByte s x b = .next (ended (s.setCell ch.ad (cellOf (word (l ++ [b])))) wrote)) ∧
    (∀ b : Byte12, ch.op = some .write → ch.out = [b] → ch.wc = 0 → ch.fullCount = false → ch.taken x = true →
      acceptByte s x false = .next (ended s
        { ch with equips := mapConnected (deviceTake x true false b) ch.equips })) ∧
    (ch.op = some .read → ch.asm = [] → endOfRecord s x = .next (ended s ch)) ∧
    (ch.op = some .read → ch.asm ≠ [] → ch.asm.length < 4 → s.present ch.ad = true →
      endOfRecord s x = .next (ended (s.drawn 2) ch) ∨
      ∃ l : List Byte12, l.length = 4 ∧ ch.asm <+: l ∧
        endOfRecord s x = .next (ended ((s.drawn 2).setCell ch.ad (cellOf (word l))) wrote)) ∧
    (ch.op.isSome = true → ch.out = [] → ch.wc = 0 → ch.fullCount = false → channelCycle s x = .next (ended s ch))

/-! ## Interrupts and protection -/

/-- The sampling: with the system active, no lockout, no augment pending and a one in the Product register, the place
of the next instruction is stored in word 00007, its half kept in the Exit flip-flop, Lockout and Mode are set and the
lower instruction of 00007 is next; in any other case nothing happens (rule R440, rule R442; the address stored and
the augment case are decisions D11 and D13). -/
def Obligations.CategoryIEntry : Prop :=
  ∀ s : State,
    (s.active = true ∧ s.catI.lockout = false ∧ s.aug = none ∧ s.ir &&& s.im ≠ 0 → s.Quiet → s.enterable 0o7 s.p →
      sample s = .next
        (({ s with catI := { lockout := true, mode := true, exit := decide (s.h = .lower) } } : State).through 0o7 s.p)) ∧
    (¬(s.active = true ∧ s.catI.lockout = false ∧ s.aug = none ∧ s.ir &&& s.im ≠ 0) → sample s = .next s)

/-- The returns: a normal jump taken in the upper half of word 00007 with Category I Mode set, or of the awaited word
000ff with Category II Mode set, goes to the half its Exit flip-flop names, Mode (and Lockout) being cleared, and is
sampled like any instruction; entering the lower half loads U. A selective stop there makes its jump on Go, and the
reject jump of an input/output instruction is a normal jump too. An instruction that ends without having taken a normal
jump is refused: another instruction, a jump whose condition fails or that is out of bounds, a code that is answered, an
operation that begins (rule R446, rule R452; that this is when the return happens is decision D12, the refusal file 93,
U15; how the jump is bounds-checked is the model's choice, assumption 9). -/
def Obligations.InterruptReturns : Prop :=
  (∀ s : State, s.Alone → s.run = .running → s.h = .upper →
    s.present s.p = true → s.allowed s.p = true → badParity (s.cell s.p) = false →
    ∀ (v : State) (exit free : Bool),
    (s.p = 0o7 ∧ s.catI.mode = true ∧ exit = s.catI.exit ∧ free = !s.params.boundsInInterrupt ∧
        v = { s with catI := { s.catI with lockout := false, mode := false } } ∨
      s.p = 0o30 + s.catII.addr.setWidth 15 ∧ s.catII.mode = true ∧ exit = s.catII.exit ∧ free = false ∧
        v = { s with catII := { s.catII with mode := false } }) →
    let r : Return := { half := if exit = true then .lower else .upper, unchecked := free }
    let t : State := { v with aug := none, u := s.word s.p, ret := some r }
    let lands (t : State) (m : Addr) : Prop :=
      (t.allowed m = true ∨ free = true) ∧
        (exit = true → t.present m = true ∧ badParity (t.cell m) = false)
    let sw (on : Bool) : Prop := s.console.maint = true ∧ on = true
    (∀ (j : BitVec 2) (x : BitVec 3) (c : Byte12) (w m : Addr),
      let busy : Prop := x.toNat < s.params.nchan ∧ (s.channel x.toNat).act = true
      ∀ p ∈ [(Instr.ajp j m, JumpTest j s.a), (.qjp j m, JumpTest j s.q), (.slj m, True),
          (.sj1 m, s.console.jump1 = true), (.sj2 m, s.console.jump2 = true), (.sj3 m, s.console.jump3 = true),
          (.ss1 m, ¬sw s.console.stop1), (.ss2 m, ¬sw s.console.stop2), (.ss3 m, ¬sw s.console.stop3),
          (.conn m x c, busy), (.extf m x c, busy), (.begr m x w, busy), (.begw m x w, busy)],
        decodeUpper (s.word s.p) = .ok p.1 → p.2 →
          (lands t m → step s = sample (t.returned m exit)) ∧
          (t.allowed m = false → free = false → step s = .refused .undefinedReturn)) ∧
    (∀ (b : BitVec 3) (m : Addr) (b' : BitVec 3) (m' : Addr) (t' : State), decodeUpper (s.word s.p) = .ok (.ijp b m) →
      Reaches t b m b' m' t' →
        (t'.index b' ≠ 0 → lands t' m' →
          step s = sample ((t'.setIndex b' (BitVec.ofNat 15 ((t'.index b').toNat - 1))).returned m' exit)) ∧
        (t'.index b' ≠ 0 → t'.allowed m' = false → free = false → step s = .refused .undefinedReturn) ∧
        (t'.index b' = 0 → step s = .refused .undefinedReturn)) ∧
    (∀ (x : BitVec 3) (c : Byte12) (m : Addr), x.toNat < s.params.nchan → (s.channel x.toNat).act = false →
      let one : Prop := countNumber (c.extractLsb' 9 3) (s.channel x.toNat).equips ≤ 1
      ∀ p ∈ [(Instr.conn m x c, connectChannel t x.toNat c, one), (.extf m x c, functionChannel t x.toNat c, True)],
        decodeUpper (s.word s.p) = .ok p.1 → p.2.2 →
          let answer : Answer := p.2.1.1
          let u : State := p.2.1.2
          (answer = .reply → step s = .refused .undefinedReturn) ∧
          (answer ≠ .reply → lands u m → step s = sample (u.returned m exit)) ∧
          (answer ≠ .reply → u.allowed m = false → free = false → step s = .refused .undefinedReturn)) ∧
    (∀ (x : BitVec 3) (w m : Addr), x.toNat < s.params.nchan → (s.channel x.toNat).act = false → s.present w = true →
      ∀ i ∈ [Instr.begr m x w, .begw m x w], decodeUpper (s.word s.p) = .ok i → step s = .refused .undefinedReturn) ∧
    (∀ m : Addr,
      ∀ p ∈ [(Instr.sls m, True), (.ss1 m, sw s.console.stop1), (.ss2 m, sw s.console.stop2), (.ss3 m, sw s.console.stop3)],
        decodeUpper (s.word s.p) = .ok p.1 → p.2 →
          step s = .next { t with run := .stopped (.sls false m false) } ∧
          (s.switchesLive = true → lands t m →
            deliver .go { t with run := .stopped (.sls false m false) } = sample (t.returned m exit)) ∧
          (s.switchesLive = true → t.allowed m = false → free = false →
            deliver .go { t with run := .stopped (.sls false m false) } = .refused .undefinedReturn)) ∧
    (∀ m : Addr,
      ∀ p ∈ [(Instr.srj m, True), (.sr1 m, sw s.console.stop1), (.sr2 m, sw s.console.stop2), (.sr3 m, sw s.console.stop3)],
        decodeUpper (s.word s.p) = .ok p.1 → p.2 →
          step s = .next { t with run := .stopped (.sls true m false) } ∧
          (s.switchesLive = true → s.present m = true →
            deliver .go { t with run := .stopped (.sls true m false) } = .refused .undefinedReturn)) ∧
    (∀ (i : Instr) (u : State), decodeUpper (s.word s.p) = .ok i → jumpsNormally i = false →
      exec i t = .next u → u.unfinished = false → step s = .refused .undefinedReturn) ∧
    (∀ (j : BitVec 2) (m : Addr),
      ∀ p ∈ [(Instr.ajp j m, JumpTest j s.a), (.qjp j m, JumpTest j s.q), (.sj1 m, s.console.jump1 = true),
          (.sj2 m, s.console.jump2 = true), (.sj3 m, s.console.jump3 = true)],
        decodeUpper (s.word s.p) = .ok p.1 → ¬p.2 → step s = .refused .undefinedReturn))

/-- Bounds protect storage: while checking applies, a step of the computer, whatever it executes, changes no word below
BL * 200 octal, or at or above BU * 200 octal unless BU is 0, but the entry words of interrupts (rule R458, R459,
decisions D16 and D17). The start after an auto-load, which may store in 00000 as Restart does, is no such step. -/
def Obligations.BoundsProtectStorage : Prop :=
  ∀ (s t : State) (a : Addr), s.Alone → s.run ≠ .loaded → s.checksApply = true →
    (a.toNat < 128 * s.bl.toNat ∨ (s.bu ≠ 0 ∧ 128 * s.bu.toNat ≤ a.toNat)) → a ∉ entryWords →
    step s = .next t → t.cell a = s.cell a

/-- Reading a program step with bad parity sets bit 46 and stops the computer before anything is executed, with P and H
as they were (rule R456). Reading one out of bounds sets bit 42 and executes it all the same (rule R461, decision D45). -/
def Obligations.InstructionRead : Prop :=
  ∀ s : State, s.Alone → s.run = .running → s.h = .upper → s.present s.p = true →
    (s.allowed s.p = true → badParity (s.cell s.p) = true →
      step s = .next
        { s with
          aug := none
          u := s.word s.p
          irLatch := setBit s.irLatch 46
          run := .stopped .instructionParity }) ∧
    (∀ i : Instr, s.allowed s.p = false → badParity (s.cell s.p) = false → decodeUpper (s.word s.p) = .ok i →
      step s = andThen
        (exec i (returnTrigger { s with aug := none, u := s.word s.p, irLatch := setBit s.irLatch 42 }))
        (finish .upper))
end

