-- ==== Sys2Proof/Laws/State.lean ====
section
/-! SUPPORT. What each update of the state leaves and what it makes of each field: one equation for each field and update,
so that no proof unfolds a record update. -/

namespace Sys2Proof.Machine

/-! ## State.setIndex -/

@[simp] theorem State.setIndex_a (s : State) (b : BitVec 3) (v : Addr) : (s.setIndex b v).a = s.a := rfl
@[simp] theorem State.setIndex_q (s : State) (b : BitVec 3) (v : Addr) : (s.setIndex b v).q = s.q := rfl
@[simp] theorem State.setIndex_u (s : State) (b : BitVec 3) (v : Addr) : (s.setIndex b v).u = s.u := rfl
@[simp] theorem State.setIndex_b (s : State) (b : BitVec 3) (v : Addr) : (s.setIndex b v).b = s.b.set b v := rfl
@[simp] theorem State.setIndex_p (s : State) (b : BitVec 3) (v : Addr) : (s.setIndex b v).p = s.p := rfl
@[simp] theorem State.setIndex_h (s : State) (b : BitVec 3) (v : Addr) : (s.setIndex b v).h = s.h := rfl
@[simp] theorem State.setIndex_irLatch (s : State) (b : BitVec 3) (v : Addr) : (s.setIndex b v).irLatch = s.irLatch := rfl
@[simp] theorem State.setIndex_im (s : State) (b : BitVec 3) (v : Addr) : (s.setIndex b v).im = s.im := rfl
@[simp] theorem State.setIndex_bl (s : State) (b : BitVec 3) (v : Addr) : (s.setIndex b v).bl = s.bl := rfl
@[simp] theorem State.setIndex_bu (s : State) (b : BitVec 3) (v : Addr) : (s.setIndex b v).bu = s.bu := rfl
@[simp] theorem State.setIndex_active (s : State) (b : BitVec 3) (v : Addr) : (s.setIndex b v).active = s.active := rfl
@[simp] theorem State.setIndex_catI (s : State) (b : BitVec 3) (v : Addr) : (s.setIndex b v).catI = s.catI := rfl
@[simp] theorem State.setIndex_catII (s : State) (b : BitVec 3) (v : Addr) : (s.setIndex b v).catII = s.catII := rfl
@[simp] theorem State.setIndex_timeLatch (s : State) (b : BitVec 3) (v : Addr) : (s.setIndex b v).timeLatch = s.timeLatch := rfl
@[simp] theorem State.setIndex_run (s : State) (b : BitVec 3) (v : Addr) : (s.setIndex b v).run = s.run := rfl
@[simp] theorem State.setIndex_aug (s : State) (b : BitVec 3) (v : Addr) : (s.setIndex b v).aug = s.aug := rfl
@[simp] theorem State.setIndex_ret (s : State) (b : BitVec 3) (v : Addr) : (s.setIndex b v).ret = s.ret := rfl
@[simp] theorem State.setIndex_channels (s : State) (b : BitVec 3) (v : Addr) : (s.setIndex b v).channels = s.channels := rfl
@[simp] theorem State.setIndex_console (s : State) (b : BitVec 3) (v : Addr) : (s.setIndex b v).console = s.console := rfl
@[simp] theorem State.setIndex_mem (s : State) (b : BitVec 3) (v : Addr) : (s.setIndex b v).mem = s.mem := rfl
@[simp] theorem State.setIndex_params (s : State) (b : BitVec 3) (v : Addr) : (s.setIndex b v).params = s.params := rfl
@[simp] theorem State.setIndex_fresh (s : State) (b : BitVec 3) (v : Addr) : (s.setIndex b v).fresh = s.fresh := rfl
@[simp] theorem State.setIndex_inputs (s : State) (b : BitVec 3) (v : Addr) : (s.setIndex b v).inputs = s.inputs := rfl
@[simp] theorem State.setIndex_between (s : State) (b : BitVec 3) (v : Addr) : (s.setIndex b v).between = s.between := rfl

/-! ## State.setCell -/

@[simp] theorem State.setCell_a (s : State) (x : Addr) (c : Cell) : (s.setCell x c).a = s.a := rfl
@[simp] theorem State.setCell_q (s : State) (x : Addr) (c : Cell) : (s.setCell x c).q = s.q := rfl
@[simp] theorem State.setCell_u (s : State) (x : Addr) (c : Cell) : (s.setCell x c).u = s.u := rfl
@[simp] theorem State.setCell_b (s : State) (x : Addr) (c : Cell) : (s.setCell x c).b = s.b := rfl
@[simp] theorem State.setCell_p (s : State) (x : Addr) (c : Cell) : (s.setCell x c).p = s.p := rfl
@[simp] theorem State.setCell_h (s : State) (x : Addr) (c : Cell) : (s.setCell x c).h = s.h := rfl
@[simp] theorem State.setCell_irLatch (s : State) (x : Addr) (c : Cell) : (s.setCell x c).irLatch = s.irLatch := rfl
@[simp] theorem State.setCell_im (s : State) (x : Addr) (c : Cell) : (s.setCell x c).im = s.im := rfl
@[simp] theorem State.setCell_bl (s : State) (x : Addr) (c : Cell) : (s.setCell x c).bl = s.bl := rfl
@[simp] theorem State.setCell_bu (s : State) (x : Addr) (c : Cell) : (s.setCell x c).bu = s.bu := rfl
@[simp] theorem State.setCell_active (s : State) (x : Addr) (c : Cell) : (s.setCell x c).active = s.active := rfl
@[simp] theorem State.setCell_catI (s : State) (x : Addr) (c : Cell) : (s.setCell x c).catI = s.catI := rfl
@[simp] theorem State.setCell_catII (s : State) (x : Addr) (c : Cell) : (s.setCell x c).catII = s.catII := rfl
@[simp] theorem State.setCell_timeLatch (s : State) (x : Addr) (c : Cell) : (s.setCell x c).timeLatch = s.timeLatch := rfl
@[simp] theorem State.setCell_run (s : State) (x : Addr) (c : Cell) : (s.setCell x c).run = s.run := rfl
@[simp] theorem State.setCell_aug (s : State) (x : Addr) (c : Cell) : (s.setCell x c).aug = s.aug := rfl
@[simp] theorem State.setCell_ret (s : State) (x : Addr) (c : Cell) : (s.setCell x c).ret = s.ret := rfl
@[simp] theorem State.setCell_channels (s : State) (x : Addr) (c : Cell) : (s.setCell x c).channels = s.channels := rfl
@[simp] theorem State.setCell_console (s : State) (x : Addr) (c : Cell) : (s.setCell x c).console = s.console := rfl
@[simp] theorem State.setCell_mem (s : State) (x : Addr) (c : Cell) : (s.setCell x c).mem = s.mem.write x.toNat c := rfl
@[simp] theorem State.setCell_params (s : State) (x : Addr) (c : Cell) : (s.setCell x c).params = s.params := rfl
@[simp] theorem State.setCell_fresh (s : State) (x : Addr) (c : Cell) : (s.setCell x c).fresh = s.fresh := rfl
@[simp] theorem State.setCell_inputs (s : State) (x : Addr) (c : Cell) : (s.setCell x c).inputs = s.inputs := rfl
@[simp] theorem State.setCell_between (s : State) (x : Addr) (c : Cell) : (s.setCell x c).between = s.between := rfl

/-! ## State.setChannel -/

@[simp] theorem State.setChannel_a (s : State) (x : Nat) (c : Channel) : (s.setChannel x c).a = s.a := rfl
@[simp] theorem State.setChannel_q (s : State) (x : Nat) (c : Channel) : (s.setChannel x c).q = s.q := rfl
@[simp] theorem State.setChannel_u (s : State) (x : Nat) (c : Channel) : (s.setChannel x c).u = s.u := rfl
@[simp] theorem State.setChannel_b (s : State) (x : Nat) (c : Channel) : (s.setChannel x c).b = s.b := rfl
@[simp] theorem State.setChannel_p (s : State) (x : Nat) (c : Channel) : (s.setChannel x c).p = s.p := rfl
@[simp] theorem State.setChannel_h (s : State) (x : Nat) (c : Channel) : (s.setChannel x c).h = s.h := rfl
@[simp] theorem State.setChannel_irLatch (s : State) (x : Nat) (c : Channel) : (s.setChannel x c).irLatch = s.irLatch := rfl
@[simp] theorem State.setChannel_im (s : State) (x : Nat) (c : Channel) : (s.setChannel x c).im = s.im := rfl
@[simp] theorem State.setChannel_bl (s : State) (x : Nat) (c : Channel) : (s.setChannel x c).bl = s.bl := rfl
@[simp] theorem State.setChannel_bu (s : State) (x : Nat) (c : Channel) : (s.setChannel x c).bu = s.bu := rfl
@[simp] theorem State.setChannel_active (s : State) (x : Nat) (c : Channel) : (s.setChannel x c).active = s.active := rfl
@[simp] theorem State.setChannel_catI (s : State) (x : Nat) (c : Channel) : (s.setChannel x c).catI = s.catI := rfl
@[simp] theorem State.setChannel_catII (s : State) (x : Nat) (c : Channel) : (s.setChannel x c).catII = s.catII := rfl
@[simp] theorem State.setChannel_timeLatch (s : State) (x : Nat) (c : Channel) : (s.setChannel x c).timeLatch = s.timeLatch := rfl
@[simp] theorem State.setChannel_run (s : State) (x : Nat) (c : Channel) : (s.setChannel x c).run = s.run := rfl
@[simp] theorem State.setChannel_aug (s : State) (x : Nat) (c : Channel) : (s.setChannel x c).aug = s.aug := rfl
@[simp] theorem State.setChannel_ret (s : State) (x : Nat) (c : Channel) : (s.setChannel x c).ret = s.ret := rfl
@[simp] theorem State.setChannel_channels (s : State) (x : Nat) (c : Channel) : (s.setChannel x c).channels = s.channels.set x c := rfl
@[simp] theorem State.setChannel_console (s : State) (x : Nat) (c : Channel) : (s.setChannel x c).console = s.console := rfl
@[simp] theorem State.setChannel_mem (s : State) (x : Nat) (c : Channel) : (s.setChannel x c).mem = s.mem := rfl
@[simp] theorem State.setChannel_params (s : State) (x : Nat) (c : Channel) : (s.setChannel x c).params = s.params := rfl
@[simp] theorem State.setChannel_fresh (s : State) (x : Nat) (c : Channel) : (s.setChannel x c).fresh = s.fresh := rfl
@[simp] theorem State.setChannel_inputs (s : State) (x : Nat) (c : Channel) : (s.setChannel x c).inputs = s.inputs := rfl
@[simp] theorem State.setChannel_between (s : State) (x : Nat) (c : Channel) : (s.setChannel x c).between = s.between := rfl

/-! ## State.putChannel -/

@[simp] theorem State.putChannel_a (s : State) (x : Nat) (c : Channel) : (s.putChannel x c).a = s.a := rfl
@[simp] theorem State.putChannel_q (s : State) (x : Nat) (c : Channel) : (s.putChannel x c).q = s.q := rfl
@[simp] theorem State.putChannel_u (s : State) (x : Nat) (c : Channel) : (s.putChannel x c).u = s.u := rfl
@[simp] theorem State.putChannel_b (s : State) (x : Nat) (c : Channel) : (s.putChannel x c).b = s.b := rfl
@[simp] theorem State.putChannel_p (s : State) (x : Nat) (c : Channel) : (s.putChannel x c).p = s.p := rfl
@[simp] theorem State.putChannel_h (s : State) (x : Nat) (c : Channel) : (s.putChannel x c).h = s.h := rfl
@[simp] theorem State.putChannel_irLatch (s : State) (x : Nat) (c : Channel) : (s.putChannel x c).irLatch = s.irLatch := rfl
@[simp] theorem State.putChannel_im (s : State) (x : Nat) (c : Channel) : (s.putChannel x c).im = s.im := rfl
@[simp] theorem State.putChannel_bl (s : State) (x : Nat) (c : Channel) : (s.putChannel x c).bl = s.bl := rfl
@[simp] theorem State.putChannel_bu (s : State) (x : Nat) (c : Channel) : (s.putChannel x c).bu = s.bu := rfl
@[simp] theorem State.putChannel_active (s : State) (x : Nat) (c : Channel) : (s.putChannel x c).active = s.active := rfl
@[simp] theorem State.putChannel_catI (s : State) (x : Nat) (c : Channel) : (s.putChannel x c).catI = s.catI := rfl
@[simp] theorem State.putChannel_catII (s : State) (x : Nat) (c : Channel) : (s.putChannel x c).catII = s.catII := rfl
@[simp] theorem State.putChannel_timeLatch (s : State) (x : Nat) (c : Channel) : (s.putChannel x c).timeLatch = s.timeLatch := rfl
@[simp] theorem State.putChannel_run (s : State) (x : Nat) (c : Channel) : (s.putChannel x c).run = s.run := rfl
@[simp] theorem State.putChannel_aug (s : State) (x : Nat) (c : Channel) : (s.putChannel x c).aug = s.aug := rfl
@[simp] theorem State.putChannel_ret (s : State) (x : Nat) (c : Channel) : (s.putChannel x c).ret = s.ret := rfl
@[simp] theorem State.putChannel_channels (s : State) (x : Nat) (c : Channel) : (s.putChannel x c).channels = (s.channels.set x c).share x := rfl
@[simp] theorem State.putChannel_console (s : State) (x : Nat) (c : Channel) : (s.putChannel x c).console = s.console := rfl
@[simp] theorem State.putChannel_mem (s : State) (x : Nat) (c : Channel) : (s.putChannel x c).mem = s.mem := rfl
@[simp] theorem State.putChannel_params (s : State) (x : Nat) (c : Channel) : (s.putChannel x c).params = s.params := rfl
@[simp] theorem State.putChannel_fresh (s : State) (x : Nat) (c : Channel) : (s.putChannel x c).fresh = s.fresh := rfl
@[simp] theorem State.putChannel_inputs (s : State) (x : Nat) (c : Channel) : (s.putChannel x c).inputs = s.inputs := rfl
@[simp] theorem State.putChannel_between (s : State) (x : Nat) (c : Channel) : (s.putChannel x c).between = s.between := rfl

/-! ## State.fault -/

@[simp] theorem State.fault_a (s : State) (n : Nat) : (s.fault n).a = s.a := rfl
@[simp] theorem State.fault_q (s : State) (n : Nat) : (s.fault n).q = s.q := rfl
@[simp] theorem State.fault_u (s : State) (n : Nat) : (s.fault n).u = s.u := rfl
@[simp] theorem State.fault_b (s : State) (n : Nat) : (s.fault n).b = s.b := rfl
@[simp] theorem State.fault_p (s : State) (n : Nat) : (s.fault n).p = s.p := rfl
@[simp] theorem State.fault_h (s : State) (n : Nat) : (s.fault n).h = s.h := rfl
@[simp] theorem State.fault_irLatch (s : State) (n : Nat) : (s.fault n).irLatch = setBit s.irLatch n := rfl
@[simp] theorem State.fault_im (s : State) (n : Nat) : (s.fault n).im = s.im := rfl
@[simp] theorem State.fault_bl (s : State) (n : Nat) : (s.fault n).bl = s.bl := rfl
@[simp] theorem State.fault_bu (s : State) (n : Nat) : (s.fault n).bu = s.bu := rfl
@[simp] theorem State.fault_active (s : State) (n : Nat) : (s.fault n).active = s.active := rfl
@[simp] theorem State.fault_catI (s : State) (n : Nat) : (s.fault n).catI = s.catI := rfl
@[simp] theorem State.fault_catII (s : State) (n : Nat) : (s.fault n).catII = s.catII := rfl
@[simp] theorem State.fault_timeLatch (s : State) (n : Nat) : (s.fault n).timeLatch = s.timeLatch := rfl
@[simp] theorem State.fault_run (s : State) (n : Nat) : (s.fault n).run = s.run := rfl
@[simp] theorem State.fault_aug (s : State) (n : Nat) : (s.fault n).aug = s.aug := rfl
@[simp] theorem State.fault_ret (s : State) (n : Nat) : (s.fault n).ret = s.ret := rfl
@[simp] theorem State.fault_channels (s : State) (n : Nat) : (s.fault n).channels = s.channels := rfl
@[simp] theorem State.fault_console (s : State) (n : Nat) : (s.fault n).console = s.console := rfl
@[simp] theorem State.fault_mem (s : State) (n : Nat) : (s.fault n).mem = s.mem := rfl
@[simp] theorem State.fault_params (s : State) (n : Nat) : (s.fault n).params = s.params := rfl
@[simp] theorem State.fault_fresh (s : State) (n : Nat) : (s.fault n).fresh = s.fresh := rfl
@[simp] theorem State.fault_inputs (s : State) (n : Nat) : (s.fault n).inputs = s.inputs := rfl
@[simp] theorem State.fault_between (s : State) (n : Nat) : (s.fault n).between = s.between := rfl

/-! ## State.faultIf -/

@[simp] theorem State.faultIf_a (s : State) (c : Bool) (n : Nat) : (s.faultIf c n).a = s.a := rfl
@[simp] theorem State.faultIf_q (s : State) (c : Bool) (n : Nat) : (s.faultIf c n).q = s.q := rfl
@[simp] theorem State.faultIf_u (s : State) (c : Bool) (n : Nat) : (s.faultIf c n).u = s.u := rfl
@[simp] theorem State.faultIf_b (s : State) (c : Bool) (n : Nat) : (s.faultIf c n).b = s.b := rfl
@[simp] theorem State.faultIf_p (s : State) (c : Bool) (n : Nat) : (s.faultIf c n).p = s.p := rfl
@[simp] theorem State.faultIf_h (s : State) (c : Bool) (n : Nat) : (s.faultIf c n).h = s.h := rfl
@[simp] theorem State.faultIf_irLatch (s : State) (c : Bool) (n : Nat) : (s.faultIf c n).irLatch = (if c then setBit s.irLatch n else s.irLatch) := rfl
@[simp] theorem State.faultIf_im (s : State) (c : Bool) (n : Nat) : (s.faultIf c n).im = s.im := rfl
@[simp] theorem State.faultIf_bl (s : State) (c : Bool) (n : Nat) : (s.faultIf c n).bl = s.bl := rfl
@[simp] theorem State.faultIf_bu (s : State) (c : Bool) (n : Nat) : (s.faultIf c n).bu = s.bu := rfl
@[simp] theorem State.faultIf_active (s : State) (c : Bool) (n : Nat) : (s.faultIf c n).active = s.active := rfl
@[simp] theorem State.faultIf_catI (s : State) (c : Bool) (n : Nat) : (s.faultIf c n).catI = s.catI := rfl
@[simp] theorem State.faultIf_catII (s : State) (c : Bool) (n : Nat) : (s.faultIf c n).catII = s.catII := rfl
@[simp] theorem State.faultIf_timeLatch (s : State) (c : Bool) (n : Nat) : (s.faultIf c n).timeLatch = s.timeLatch := rfl
@[simp] theorem State.faultIf_run (s : State) (c : Bool) (n : Nat) : (s.faultIf c n).run = s.run := rfl
@[simp] theorem State.faultIf_aug (s : State) (c : Bool) (n : Nat) : (s.faultIf c n).aug = s.aug := rfl
@[simp] theorem State.faultIf_ret (s : State) (c : Bool) (n : Nat) : (s.faultIf c n).ret = s.ret := rfl
@[simp] theorem State.faultIf_channels (s : State) (c : Bool) (n : Nat) : (s.faultIf c n).channels = s.channels := rfl
@[simp] theorem State.faultIf_console (s : State) (c : Bool) (n : Nat) : (s.faultIf c n).console = s.console := rfl
@[simp] theorem State.faultIf_mem (s : State) (c : Bool) (n : Nat) : (s.faultIf c n).mem = s.mem := rfl
@[simp] theorem State.faultIf_params (s : State) (c : Bool) (n : Nat) : (s.faultIf c n).params = s.params := rfl
@[simp] theorem State.faultIf_fresh (s : State) (c : Bool) (n : Nat) : (s.faultIf c n).fresh = s.fresh := rfl
@[simp] theorem State.faultIf_inputs (s : State) (c : Bool) (n : Nat) : (s.faultIf c n).inputs = s.inputs := rfl
@[simp] theorem State.faultIf_between (s : State) (c : Bool) (n : Nat) : (s.faultIf c n).between = s.between := rfl

/-! ## State.violation -/

@[simp] theorem State.violation_a (s : State) : (s.violation).a = s.a := rfl
@[simp] theorem State.violation_q (s : State) : (s.violation).q = s.q := rfl
@[simp] theorem State.violation_u (s : State) : (s.violation).u = s.u := rfl
@[simp] theorem State.violation_b (s : State) : (s.violation).b = s.b := rfl
@[simp] theorem State.violation_p (s : State) : (s.violation).p = s.p := rfl
@[simp] theorem State.violation_h (s : State) : (s.violation).h = s.h := rfl
@[simp] theorem State.violation_irLatch (s : State) : (s.violation).irLatch = setBit s.irLatch 42 := rfl
@[simp] theorem State.violation_im (s : State) : (s.violation).im = s.im := rfl
@[simp] theorem State.violation_bl (s : State) : (s.violation).bl = s.bl := rfl
@[simp] theorem State.violation_bu (s : State) : (s.violation).bu = s.bu := rfl
@[simp] theorem State.violation_active (s : State) : (s.violation).active = s.active := rfl
@[simp] theorem State.violation_catI (s : State) : (s.violation).catI = s.catI := rfl
@[simp] theorem State.violation_catII (s : State) : (s.violation).catII = s.catII := rfl
@[simp] theorem State.violation_timeLatch (s : State) : (s.violation).timeLatch = s.timeLatch := rfl
@[simp] theorem State.violation_run (s : State) : (s.violation).run = s.run := rfl
@[simp] theorem State.violation_aug (s : State) : (s.violation).aug = s.aug := rfl
@[simp] theorem State.violation_ret (s : State) : (s.violation).ret = s.ret := rfl
@[simp] theorem State.violation_channels (s : State) : (s.violation).channels = s.channels := rfl
@[simp] theorem State.violation_console (s : State) : (s.violation).console = s.console := rfl
@[simp] theorem State.violation_mem (s : State) : (s.violation).mem = s.mem := rfl
@[simp] theorem State.violation_params (s : State) : (s.violation).params = s.params := rfl
@[simp] theorem State.violation_fresh (s : State) : (s.violation).fresh = s.fresh := rfl
@[simp] theorem State.violation_inputs (s : State) : (s.violation).inputs = s.inputs := rfl
@[simp] theorem State.violation_between (s : State) : (s.violation).between = s.between := rfl

/-! ## State.noteParity -/

@[simp] theorem State.noteParity_a (s : State) (x : Addr) : (s.noteParity x).a = s.a := rfl
@[simp] theorem State.noteParity_q (s : State) (x : Addr) : (s.noteParity x).q = s.q := rfl
@[simp] theorem State.noteParity_u (s : State) (x : Addr) : (s.noteParity x).u = s.u := rfl
@[simp] theorem State.noteParity_b (s : State) (x : Addr) : (s.noteParity x).b = s.b := rfl
@[simp] theorem State.noteParity_p (s : State) (x : Addr) : (s.noteParity x).p = s.p := rfl
@[simp] theorem State.noteParity_h (s : State) (x : Addr) : (s.noteParity x).h = s.h := rfl
@[simp] theorem State.noteParity_irLatch (s : State) (x : Addr) : (s.noteParity x).irLatch = (if badParity (s.cell x) then setBit s.irLatch 45 else s.irLatch) := rfl
@[simp] theorem State.noteParity_im (s : State) (x : Addr) : (s.noteParity x).im = s.im := rfl
@[simp] theorem State.noteParity_bl (s : State) (x : Addr) : (s.noteParity x).bl = s.bl := rfl
@[simp] theorem State.noteParity_bu (s : State) (x : Addr) : (s.noteParity x).bu = s.bu := rfl
@[simp] theorem State.noteParity_active (s : State) (x : Addr) : (s.noteParity x).active = s.active := rfl
@[simp] theorem State.noteParity_catI (s : State) (x : Addr) : (s.noteParity x).catI = s.catI := rfl
@[simp] theorem State.noteParity_catII (s : State) (x : Addr) : (s.noteParity x).catII = s.catII := rfl
@[simp] theorem State.noteParity_timeLatch (s : State) (x : Addr) : (s.noteParity x).timeLatch = s.timeLatch := rfl
@[simp] theorem State.noteParity_run (s : State) (x : Addr) : (s.noteParity x).run = s.run := rfl
@[simp] theorem State.noteParity_aug (s : State) (x : Addr) : (s.noteParity x).aug = s.aug := rfl
@[simp] theorem State.noteParity_ret (s : State) (x : Addr) : (s.noteParity x).ret = s.ret := rfl
@[simp] theorem State.noteParity_channels (s : State) (x : Addr) : (s.noteParity x).channels = s.channels := rfl
@[simp] theorem State.noteParity_console (s : State) (x : Addr) : (s.noteParity x).console = s.console := rfl
@[simp] theorem State.noteParity_mem (s : State) (x : Addr) : (s.noteParity x).mem = s.mem := rfl
@[simp] theorem State.noteParity_params (s : State) (x : Addr) : (s.noteParity x).params = s.params := rfl
@[simp] theorem State.noteParity_fresh (s : State) (x : Addr) : (s.noteParity x).fresh = s.fresh := rfl
@[simp] theorem State.noteParity_inputs (s : State) (x : Addr) : (s.noteParity x).inputs = s.inputs := rfl
@[simp] theorem State.noteParity_between (s : State) (x : Addr) : (s.noteParity x).between = s.between := rfl

/-! ## State.advance -/

@[simp] theorem State.advance_a (s : State) : (s.advance).a = s.a := rfl
@[simp] theorem State.advance_q (s : State) : (s.advance).q = s.q := rfl
@[simp] theorem State.advance_u (s : State) : (s.advance).u = s.u := rfl
@[simp] theorem State.advance_b (s : State) : (s.advance).b = s.b := rfl
@[simp] theorem State.advance_irLatch (s : State) : (s.advance).irLatch = s.irLatch := rfl
@[simp] theorem State.advance_im (s : State) : (s.advance).im = s.im := rfl
@[simp] theorem State.advance_bl (s : State) : (s.advance).bl = s.bl := rfl
@[simp] theorem State.advance_bu (s : State) : (s.advance).bu = s.bu := rfl
@[simp] theorem State.advance_active (s : State) : (s.advance).active = s.active := rfl
@[simp] theorem State.advance_catI (s : State) : (s.advance).catI = s.catI := rfl
@[simp] theorem State.advance_catII (s : State) : (s.advance).catII = s.catII := rfl
@[simp] theorem State.advance_timeLatch (s : State) : (s.advance).timeLatch = s.timeLatch := rfl
@[simp] theorem State.advance_run (s : State) : (s.advance).run = s.run := rfl
@[simp] theorem State.advance_aug (s : State) : (s.advance).aug = s.aug := rfl
@[simp] theorem State.advance_ret (s : State) : (s.advance).ret = s.ret := rfl
@[simp] theorem State.advance_channels (s : State) : (s.advance).channels = s.channels := rfl
@[simp] theorem State.advance_console (s : State) : (s.advance).console = s.console := rfl
@[simp] theorem State.advance_mem (s : State) : (s.advance).mem = s.mem := rfl
@[simp] theorem State.advance_params (s : State) : (s.advance).params = s.params := rfl
@[simp] theorem State.advance_fresh (s : State) : (s.advance).fresh = s.fresh := rfl
@[simp] theorem State.advance_inputs (s : State) : (s.advance).inputs = s.inputs := rfl
@[simp] theorem State.advance_between (s : State) : (s.advance).between = s.between := rfl

/-! ## State.nextStep -/

@[simp] theorem State.nextStep_a (s : State) : (s.nextStep).a = s.a := rfl
@[simp] theorem State.nextStep_q (s : State) : (s.nextStep).q = s.q := rfl
@[simp] theorem State.nextStep_u (s : State) : (s.nextStep).u = s.u := rfl
@[simp] theorem State.nextStep_b (s : State) : (s.nextStep).b = s.b := rfl
@[simp] theorem State.nextStep_p (s : State) : (s.nextStep).p = s.p + 1 := rfl
@[simp] theorem State.nextStep_h (s : State) : (s.nextStep).h = .upper := rfl
@[simp] theorem State.nextStep_irLatch (s : State) : (s.nextStep).irLatch = s.irLatch := rfl
@[simp] theorem State.nextStep_im (s : State) : (s.nextStep).im = s.im := rfl
@[simp] theorem State.nextStep_bl (s : State) : (s.nextStep).bl = s.bl := rfl
@[simp] theorem State.nextStep_bu (s : State) : (s.nextStep).bu = s.bu := rfl
@[simp] theorem State.nextStep_active (s : State) : (s.nextStep).active = s.active := rfl
@[simp] theorem State.nextStep_catI (s : State) : (s.nextStep).catI = s.catI := rfl
@[simp] theorem State.nextStep_catII (s : State) : (s.nextStep).catII = s.catII := rfl
@[simp] theorem State.nextStep_timeLatch (s : State) : (s.nextStep).timeLatch = s.timeLatch := rfl
@[simp] theorem State.nextStep_run (s : State) : (s.nextStep).run = s.run := rfl
@[simp] theorem State.nextStep_aug (s : State) : (s.nextStep).aug = s.aug := rfl
@[simp] theorem State.nextStep_ret (s : State) : (s.nextStep).ret = s.ret := rfl
@[simp] theorem State.nextStep_channels (s : State) : (s.nextStep).channels = s.channels := rfl
@[simp] theorem State.nextStep_console (s : State) : (s.nextStep).console = s.console := rfl
@[simp] theorem State.nextStep_mem (s : State) : (s.nextStep).mem = s.mem := rfl
@[simp] theorem State.nextStep_params (s : State) : (s.nextStep).params = s.params := rfl
@[simp] theorem State.nextStep_fresh (s : State) : (s.nextStep).fresh = s.fresh := rfl
@[simp] theorem State.nextStep_inputs (s : State) : (s.nextStep).inputs = s.inputs := rfl
@[simp] theorem State.nextStep_between (s : State) : (s.nextStep).between = s.between := rfl

/-! ## State.drawn -/

@[simp] theorem State.drawn_a (s : State) (n : Nat) : (s.drawn n).a = s.a := rfl
@[simp] theorem State.drawn_q (s : State) (n : Nat) : (s.drawn n).q = s.q := rfl
@[simp] theorem State.drawn_u (s : State) (n : Nat) : (s.drawn n).u = s.u := rfl
@[simp] theorem State.drawn_b (s : State) (n : Nat) : (s.drawn n).b = s.b := rfl
@[simp] theorem State.drawn_p (s : State) (n : Nat) : (s.drawn n).p = s.p := rfl
@[simp] theorem State.drawn_h (s : State) (n : Nat) : (s.drawn n).h = s.h := rfl
@[simp] theorem State.drawn_irLatch (s : State) (n : Nat) : (s.drawn n).irLatch = s.irLatch := rfl
@[simp] theorem State.drawn_im (s : State) (n : Nat) : (s.drawn n).im = s.im := rfl
@[simp] theorem State.drawn_bl (s : State) (n : Nat) : (s.drawn n).bl = s.bl := rfl
@[simp] theorem State.drawn_bu (s : State) (n : Nat) : (s.drawn n).bu = s.bu := rfl
@[simp] theorem State.drawn_active (s : State) (n : Nat) : (s.drawn n).active = s.active := rfl
@[simp] theorem State.drawn_catI (s : State) (n : Nat) : (s.drawn n).catI = s.catI := rfl
@[simp] theorem State.drawn_catII (s : State) (n : Nat) : (s.drawn n).catII = s.catII := rfl
@[simp] theorem State.drawn_timeLatch (s : State) (n : Nat) : (s.drawn n).timeLatch = s.timeLatch := rfl
@[simp] theorem State.drawn_run (s : State) (n : Nat) : (s.drawn n).run = s.run := rfl
@[simp] theorem State.drawn_aug (s : State) (n : Nat) : (s.drawn n).aug = s.aug := rfl
@[simp] theorem State.drawn_ret (s : State) (n : Nat) : (s.drawn n).ret = s.ret := rfl
@[simp] theorem State.drawn_channels (s : State) (n : Nat) : (s.drawn n).channels = s.channels := rfl
@[simp] theorem State.drawn_console (s : State) (n : Nat) : (s.drawn n).console = s.console := rfl
@[simp] theorem State.drawn_mem (s : State) (n : Nat) : (s.drawn n).mem = s.mem := rfl
@[simp] theorem State.drawn_params (s : State) (n : Nat) : (s.drawn n).params = s.params := rfl
@[simp] theorem State.drawn_fresh (s : State) (n : Nat) : (s.drawn n).fresh = s.fresh + n := rfl
@[simp] theorem State.drawn_inputs (s : State) (n : Nat) : (s.drawn n).inputs = s.inputs := rfl
@[simp] theorem State.drawn_between (s : State) (n : Nat) : (s.drawn n).between = s.between := rfl

/-! ## State.setAQ -/

@[simp] theorem State.setAQ_a (s : State) (v : BitVec 96) : (s.setAQ v).a = v.extractLsb' 48 48 := rfl
@[simp] theorem State.setAQ_q (s : State) (v : BitVec 96) : (s.setAQ v).q = v.extractLsb' 0 48 := rfl
@[simp] theorem State.setAQ_u (s : State) (v : BitVec 96) : (s.setAQ v).u = s.u := rfl
@[simp] theorem State.setAQ_b (s : State) (v : BitVec 96) : (s.setAQ v).b = s.b := rfl
@[simp] theorem State.setAQ_p (s : State) (v : BitVec 96) : (s.setAQ v).p = s.p := rfl
@[simp] theorem State.setAQ_h (s : State) (v : BitVec 96) : (s.setAQ v).h = s.h := rfl
@[simp] theorem State.setAQ_irLatch (s : State) (v : BitVec 96) : (s.setAQ v).irLatch = s.irLatch := rfl
@[simp] theorem State.setAQ_im (s : State) (v : BitVec 96) : (s.setAQ v).im = s.im := rfl
@[simp] theorem State.setAQ_bl (s : State) (v : BitVec 96) : (s.setAQ v).bl = s.bl := rfl
@[simp] theorem State.setAQ_bu (s : State) (v : BitVec 96) : (s.setAQ v).bu = s.bu := rfl
@[simp] theorem State.setAQ_active (s : State) (v : BitVec 96) : (s.setAQ v).active = s.active := rfl
@[simp] theorem State.setAQ_catI (s : State) (v : BitVec 96) : (s.setAQ v).catI = s.catI := rfl
@[simp] theorem State.setAQ_catII (s : State) (v : BitVec 96) : (s.setAQ v).catII = s.catII := rfl
@[simp] theorem State.setAQ_timeLatch (s : State) (v : BitVec 96) : (s.setAQ v).timeLatch = s.timeLatch := rfl
@[simp] theorem State.setAQ_run (s : State) (v : BitVec 96) : (s.setAQ v).run = s.run := rfl
@[simp] theorem State.setAQ_aug (s : State) (v : BitVec 96) : (s.setAQ v).aug = s.aug := rfl
@[simp] theorem State.setAQ_ret (s : State) (v : BitVec 96) : (s.setAQ v).ret = s.ret := rfl
@[simp] theorem State.setAQ_channels (s : State) (v : BitVec 96) : (s.setAQ v).channels = s.channels := rfl
@[simp] theorem State.setAQ_console (s : State) (v : BitVec 96) : (s.setAQ v).console = s.console := rfl
@[simp] theorem State.setAQ_mem (s : State) (v : BitVec 96) : (s.setAQ v).mem = s.mem := rfl
@[simp] theorem State.setAQ_params (s : State) (v : BitVec 96) : (s.setAQ v).params = s.params := rfl
@[simp] theorem State.setAQ_fresh (s : State) (v : BitVec 96) : (s.setAQ v).fresh = s.fresh := rfl
@[simp] theorem State.setAQ_inputs (s : State) (v : BitVec 96) : (s.setAQ v).inputs = s.inputs := rfl
@[simp] theorem State.setAQ_between (s : State) (v : BitVec 96) : (s.setAQ v).between = s.between := rfl

/-! ## State.atUpper -/

@[simp] theorem State.atUpper_a (s : State) (m : Addr) : (s.atUpper m).a = s.a := rfl
@[simp] theorem State.atUpper_q (s : State) (m : Addr) : (s.atUpper m).q = s.q := rfl
@[simp] theorem State.atUpper_u (s : State) (m : Addr) : (s.atUpper m).u = s.u := rfl
@[simp] theorem State.atUpper_b (s : State) (m : Addr) : (s.atUpper m).b = s.b := rfl
@[simp] theorem State.atUpper_p (s : State) (m : Addr) : (s.atUpper m).p = m := rfl
@[simp] theorem State.atUpper_h (s : State) (m : Addr) : (s.atUpper m).h = .upper := rfl
@[simp] theorem State.atUpper_irLatch (s : State) (m : Addr) : (s.atUpper m).irLatch = s.irLatch := rfl
@[simp] theorem State.atUpper_im (s : State) (m : Addr) : (s.atUpper m).im = s.im := rfl
@[simp] theorem State.atUpper_bl (s : State) (m : Addr) : (s.atUpper m).bl = s.bl := rfl
@[simp] theorem State.atUpper_bu (s : State) (m : Addr) : (s.atUpper m).bu = s.bu := rfl
@[simp] theorem State.atUpper_active (s : State) (m : Addr) : (s.atUpper m).active = s.active := rfl
@[simp] theorem State.atUpper_catI (s : State) (m : Addr) : (s.atUpper m).catI = s.catI := rfl
@[simp] theorem State.atUpper_catII (s : State) (m : Addr) : (s.atUpper m).catII = s.catII := rfl
@[simp] theorem State.atUpper_timeLatch (s : State) (m : Addr) : (s.atUpper m).timeLatch = s.timeLatch := rfl
@[simp] theorem State.atUpper_run (s : State) (m : Addr) : (s.atUpper m).run = s.run := rfl
@[simp] theorem State.atUpper_aug (s : State) (m : Addr) : (s.atUpper m).aug = s.aug := rfl
@[simp] theorem State.atUpper_ret (s : State) (m : Addr) : (s.atUpper m).ret = s.ret := rfl
@[simp] theorem State.atUpper_channels (s : State) (m : Addr) : (s.atUpper m).channels = s.channels := rfl
@[simp] theorem State.atUpper_console (s : State) (m : Addr) : (s.atUpper m).console = s.console := rfl
@[simp] theorem State.atUpper_mem (s : State) (m : Addr) : (s.atUpper m).mem = s.mem := rfl
@[simp] theorem State.atUpper_params (s : State) (m : Addr) : (s.atUpper m).params = s.params := rfl
@[simp] theorem State.atUpper_fresh (s : State) (m : Addr) : (s.atUpper m).fresh = s.fresh := rfl
@[simp] theorem State.atUpper_inputs (s : State) (m : Addr) : (s.atUpper m).inputs = s.inputs := rfl
@[simp] theorem State.atUpper_between (s : State) (m : Addr) : (s.atUpper m).between = s.between := rfl

/-! ## The successor -/

theorem State.advance_upper (s : State) (h : s.h = .upper) : s.advance = { s with h := .lower } := by
  simp [State.advance, h]

theorem State.advance_lower (s : State) (h : s.h = .lower) : s.advance = { s with p := s.p + 1, h := .upper } := by
  simp [State.advance, h]

/-- In the lower position a skip is the next instruction (rule R108). -/
theorem State.skip_lower (s : State) (h : s.h = .lower) : s.skip = s.advance := by
  rw [State.advance_lower s h, State.skip, State.nextStep]

@[simp] theorem State.skip_eq (s : State) : s.skip = s.nextStep := rfl

@[simp] theorem State.skipIf_true (s : State) : s.skipIf true = s.nextStep := rfl
@[simp] theorem State.skipIf_false (s : State) : s.skipIf false = s.advance := rfl

/-! ## Reading through an update -/

@[simp] theorem State.setIndex_cell (s : State) (b : BitVec 3) (v : Addr) (a : Addr) : (s.setIndex b v).cell a = s.cell a := rfl
@[simp] theorem State.setIndex_word (s : State) (b : BitVec 3) (v : Addr) (a : Addr) : (s.setIndex b v).word a = s.word a := rfl
@[simp] theorem State.setIndex_present (s : State) (b : BitVec 3) (v : Addr) (a : Addr) : (s.setIndex b v).present a = s.present a := rfl
@[simp] theorem State.setIndex_allowed (s : State) (b : BitVec 3) (v : Addr) (a : Addr) : (s.setIndex b v).allowed a = s.allowed a := rfl
@[simp] theorem State.setIndex_channel (s : State) (b : BitVec 3) (v : Addr) (y : Nat) : (s.setIndex b v).channel y = s.channel y := rfl
@[simp] theorem State.setIndex_operand (s : State) (b : BitVec 3) (v : Addr) (w : Word) : (s.setIndex b v).operand w = s.operand w := rfl
@[simp] theorem State.setCell_present (s : State) (x : Addr) (c : Cell) (a : Addr) : (s.setCell x c).present a = s.present a := rfl
@[simp] theorem State.setCell_allowed (s : State) (x : Addr) (c : Cell) (a : Addr) : (s.setCell x c).allowed a = s.allowed a := rfl
@[simp] theorem State.setCell_index (s : State) (x : Addr) (c : Cell) (d : BitVec 3) : (s.setCell x c).index d = s.index d := rfl
@[simp] theorem State.setCell_channel (s : State) (x : Addr) (c : Cell) (y : Nat) : (s.setCell x c).channel y = s.channel y := rfl
@[simp] theorem State.setCell_operand (s : State) (x : Addr) (c : Cell) (w : Word) : (s.setCell x c).operand w = s.operand w := rfl
@[simp] theorem State.setChannel_cell (s : State) (x : Nat) (c : Channel) (a : Addr) : (s.setChannel x c).cell a = s.cell a := rfl
@[simp] theorem State.setChannel_word (s : State) (x : Nat) (c : Channel) (a : Addr) : (s.setChannel x c).word a = s.word a := rfl
@[simp] theorem State.setChannel_present (s : State) (x : Nat) (c : Channel) (a : Addr) : (s.setChannel x c).present a = s.present a := rfl
@[simp] theorem State.setChannel_allowed (s : State) (x : Nat) (c : Channel) (a : Addr) : (s.setChannel x c).allowed a = s.allowed a := rfl
@[simp] theorem State.setChannel_index (s : State) (x : Nat) (c : Channel) (d : BitVec 3) : (s.setChannel x c).index d = s.index d := rfl
@[simp] theorem State.setChannel_operand (s : State) (x : Nat) (c : Channel) (w : Word) : (s.setChannel x c).operand w = s.operand w := rfl
@[simp] theorem State.fault_cell (s : State) (n : Nat) (a : Addr) : (s.fault n).cell a = s.cell a := rfl
@[simp] theorem State.fault_word (s : State) (n : Nat) (a : Addr) : (s.fault n).word a = s.word a := rfl
@[simp] theorem State.fault_present (s : State) (n : Nat) (a : Addr) : (s.fault n).present a = s.present a := rfl
@[simp] theorem State.fault_allowed (s : State) (n : Nat) (a : Addr) : (s.fault n).allowed a = s.allowed a := rfl
@[simp] theorem State.fault_index (s : State) (n : Nat) (d : BitVec 3) : (s.fault n).index d = s.index d := rfl
@[simp] theorem State.fault_channel (s : State) (n : Nat) (y : Nat) : (s.fault n).channel y = s.channel y := rfl
@[simp] theorem State.fault_operand (s : State) (n : Nat) (w : Word) : (s.fault n).operand w = s.operand w := rfl
@[simp] theorem State.faultIf_cell (s : State) (c : Bool) (n : Nat) (a : Addr) : (s.faultIf c n).cell a = s.cell a := rfl
@[simp] theorem State.faultIf_word (s : State) (c : Bool) (n : Nat) (a : Addr) : (s.faultIf c n).word a = s.word a := rfl
@[simp] theorem State.faultIf_present (s : State) (c : Bool) (n : Nat) (a : Addr) : (s.faultIf c n).present a = s.present a := rfl
@[simp] theorem State.faultIf_allowed (s : State) (c : Bool) (n : Nat) (a : Addr) : (s.faultIf c n).allowed a = s.allowed a := rfl
@[simp] theorem State.faultIf_index (s : State) (c : Bool) (n : Nat) (d : BitVec 3) : (s.faultIf c n).index d = s.index d := rfl
@[simp] theorem State.faultIf_channel (s : State) (c : Bool) (n : Nat) (y : Nat) : (s.faultIf c n).channel y = s.channel y := rfl
@[simp] theorem State.faultIf_operand (s : State) (c : Bool) (n : Nat) (w : Word) : (s.faultIf c n).operand w = s.operand w := rfl
@[simp] theorem State.violation_cell (s : State) (a : Addr) : (s.violation).cell a = s.cell a := rfl
@[simp] theorem State.violation_word (s : State) (a : Addr) : (s.violation).word a = s.word a := rfl
@[simp] theorem State.violation_present (s : State) (a : Addr) : (s.violation).present a = s.present a := rfl
@[simp] theorem State.violation_allowed (s : State) (a : Addr) : (s.violation).allowed a = s.allowed a := rfl
@[simp] theorem State.violation_index (s : State) (d : BitVec 3) : (s.violation).index d = s.index d := rfl
@[simp] theorem State.violation_channel (s : State) (y : Nat) : (s.violation).channel y = s.channel y := rfl
@[simp] theorem State.violation_operand (s : State) (w : Word) : (s.violation).operand w = s.operand w := rfl
@[simp] theorem State.noteParity_cell (s : State) (x : Addr) (a : Addr) : (s.noteParity x).cell a = s.cell a := rfl
@[simp] theorem State.noteParity_word (s : State) (x : Addr) (a : Addr) : (s.noteParity x).word a = s.word a := rfl
@[simp] theorem State.noteParity_present (s : State) (x : Addr) (a : Addr) : (s.noteParity x).present a = s.present a := rfl
@[simp] theorem State.noteParity_allowed (s : State) (x : Addr) (a : Addr) : (s.noteParity x).allowed a = s.allowed a := rfl
@[simp] theorem State.noteParity_index (s : State) (x : Addr) (d : BitVec 3) : (s.noteParity x).index d = s.index d := rfl
@[simp] theorem State.noteParity_channel (s : State) (x : Addr) (y : Nat) : (s.noteParity x).channel y = s.channel y := rfl
@[simp] theorem State.noteParity_operand (s : State) (x : Addr) (w : Word) : (s.noteParity x).operand w = s.operand w := rfl
@[simp] theorem State.advance_cell (s : State) (a : Addr) : (s.advance).cell a = s.cell a := rfl
@[simp] theorem State.advance_word (s : State) (a : Addr) : (s.advance).word a = s.word a := rfl
@[simp] theorem State.advance_present (s : State) (a : Addr) : (s.advance).present a = s.present a := rfl
@[simp] theorem State.advance_allowed (s : State) (a : Addr) : (s.advance).allowed a = s.allowed a := rfl
@[simp] theorem State.advance_index (s : State) (d : BitVec 3) : (s.advance).index d = s.index d := rfl
@[simp] theorem State.advance_channel (s : State) (y : Nat) : (s.advance).channel y = s.channel y := rfl
@[simp] theorem State.nextStep_cell (s : State) (a : Addr) : (s.nextStep).cell a = s.cell a := rfl
@[simp] theorem State.nextStep_word (s : State) (a : Addr) : (s.nextStep).word a = s.word a := rfl
@[simp] theorem State.nextStep_present (s : State) (a : Addr) : (s.nextStep).present a = s.present a := rfl
@[simp] theorem State.nextStep_allowed (s : State) (a : Addr) : (s.nextStep).allowed a = s.allowed a := rfl
@[simp] theorem State.nextStep_index (s : State) (d : BitVec 3) : (s.nextStep).index d = s.index d := rfl
@[simp] theorem State.nextStep_channel (s : State) (y : Nat) : (s.nextStep).channel y = s.channel y := rfl
@[simp] theorem State.drawn_cell (s : State) (n : Nat) (a : Addr) : (s.drawn n).cell a = s.cell a := rfl
@[simp] theorem State.drawn_word (s : State) (n : Nat) (a : Addr) : (s.drawn n).word a = s.word a := rfl
@[simp] theorem State.drawn_present (s : State) (n : Nat) (a : Addr) : (s.drawn n).present a = s.present a := rfl
@[simp] theorem State.drawn_allowed (s : State) (n : Nat) (a : Addr) : (s.drawn n).allowed a = s.allowed a := rfl
@[simp] theorem State.drawn_index (s : State) (n : Nat) (d : BitVec 3) : (s.drawn n).index d = s.index d := rfl
@[simp] theorem State.drawn_channel (s : State) (n : Nat) (y : Nat) : (s.drawn n).channel y = s.channel y := rfl
@[simp] theorem State.drawn_operand (s : State) (n : Nat) (w : Word) : (s.drawn n).operand w = s.operand w := rfl
@[simp] theorem State.setAQ_cell (s : State) (v : BitVec 96) (a : Addr) : (s.setAQ v).cell a = s.cell a := rfl
@[simp] theorem State.setAQ_word (s : State) (v : BitVec 96) (a : Addr) : (s.setAQ v).word a = s.word a := rfl
@[simp] theorem State.setAQ_present (s : State) (v : BitVec 96) (a : Addr) : (s.setAQ v).present a = s.present a := rfl
@[simp] theorem State.setAQ_allowed (s : State) (v : BitVec 96) (a : Addr) : (s.setAQ v).allowed a = s.allowed a := rfl
@[simp] theorem State.setAQ_index (s : State) (v : BitVec 96) (d : BitVec 3) : (s.setAQ v).index d = s.index d := rfl
@[simp] theorem State.setAQ_channel (s : State) (v : BitVec 96) (y : Nat) : (s.setAQ v).channel y = s.channel y := rfl
@[simp] theorem State.setAQ_operand (s : State) (v : BitVec 96) (w : Word) : (s.setAQ v).operand w = s.operand w := rfl
@[simp] theorem State.atUpper_cell (s : State) (m : Addr) (a : Addr) : (s.atUpper m).cell a = s.cell a := rfl
@[simp] theorem State.atUpper_word (s : State) (m : Addr) (a : Addr) : (s.atUpper m).word a = s.word a := rfl
@[simp] theorem State.atUpper_present (s : State) (m : Addr) (a : Addr) : (s.atUpper m).present a = s.present a := rfl
@[simp] theorem State.atUpper_allowed (s : State) (m : Addr) (a : Addr) : (s.atUpper m).allowed a = s.allowed a := rfl
@[simp] theorem State.atUpper_index (s : State) (m : Addr) (d : BitVec 3) : (s.atUpper m).index d = s.index d := rfl
@[simp] theorem State.atUpper_channel (s : State) (m : Addr) (y : Nat) : (s.atUpper m).channel y = s.channel y := rfl

@[simp] theorem State.putChannel_cell (s : State) (x : Nat) (c : Channel) (a : Addr) : (s.putChannel x c).cell a = s.cell a := rfl
@[simp] theorem State.putChannel_word (s : State) (x : Nat) (c : Channel) (a : Addr) : (s.putChannel x c).word a = s.word a := rfl
@[simp] theorem State.putChannel_present (s : State) (x : Nat) (c : Channel) (a : Addr) : (s.putChannel x c).present a = s.present a := rfl
@[simp] theorem State.putChannel_allowed (s : State) (x : Nat) (c : Channel) (a : Addr) : (s.putChannel x c).allowed a = s.allowed a := rfl
@[simp] theorem State.putChannel_index (s : State) (x : Nat) (c : Channel) (d : BitVec 3) : (s.putChannel x c).index d = s.index d := rfl
@[simp] theorem State.putChannel_operand (s : State) (x : Nat) (c : Channel) (w : Word) : (s.putChannel x c).operand w = s.operand w := rfl

theorem State.faultIf_true (s : State) (n : Nat) : s.faultIf true n = s.fault n := rfl
@[simp] theorem State.faultIf_false (s : State) (n : Nat) : s.faultIf false n = s := rfl

/-- A reference to a word of good parity notes nothing. -/
theorem State.noteParity_good (s : State) (a : Addr) (h : badParity (s.cell a) = false) : s.noteParity a = s := by
  rw [State.noteParity, h, State.faultIf_false]

/-! ## The sides of shared machines -/

@[simp] theorem Channel.follow_wc (y : Nat) (l : List Equipment) (c : Channel) : (c.follow y l).wc = c.wc := rfl
@[simp] theorem Channel.follow_ad (y : Nat) (l : List Equipment) (c : Channel) : (c.follow y l).ad = c.ad := rfl
@[simp] theorem Channel.follow_act (y : Nat) (l : List Equipment) (c : Channel) : (c.follow y l).act = c.act := rfl
@[simp] theorem Channel.follow_dir (y : Nat) (l : List Equipment) (c : Channel) : (c.follow y l).dir = c.dir := rfl
@[simp] theorem Channel.follow_op (y : Nat) (l : List Equipment) (c : Channel) : (c.follow y l).op = c.op := rfl
@[simp] theorem Channel.follow_asm (y : Nat) (l : List Equipment) (c : Channel) : (c.follow y l).asm = c.asm := rfl
@[simp] theorem Channel.follow_out (y : Nat) (l : List Equipment) (c : Channel) : (c.follow y l).out = c.out := rfl
@[simp] theorem Channel.follow_connected (y : Nat) (l : List Equipment) (c : Channel) :
    (c.follow y l).connected = c.connected := rfl
@[simp] theorem Channel.follow_blocked (y : Nat) (l : List Equipment) (c : Channel) :
    (c.follow y l).blocked = c.blocked := rfl

/-- An equipment that is no side of a shared machine follows nothing. -/
theorem equipmentFollow_alone (y : Nat) (l : List Equipment) (e : Equipment) (h : e.machine = none) :
    equipmentFollow y l e = e := by simp [equipmentFollow, h]

end Sys2Proof.Machine
end

