-- ==== Sys2Proof/Laws/Memory.lean ====
section
/-! SUPPORT. Storage: a word written is the word read, the others are as before, and every operation over storage keeps
its canonical form (rule R60, rule R74). -/

namespace Sys2Proof.Machine

/-! ## Reading after erasing, inserting and writing -/

theorem Memory.read_erase_same (m : Memory) (a : Nat) : (m.erase a).read a = emptyCell := by
  induction m with
  | nil => rfl
  | cons e m ih =>
    obtain ⟨k, c⟩ := e
    by_cases h : k = a <;> simp [Memory.erase, Memory.read, h, ih]

theorem Memory.read_erase_other (m : Memory) (a x : Nat) (hx : x ≠ a) : (m.erase a).read x = m.read x := by
  induction m with
  | nil => rfl
  | cons e m ih =>
    obtain ⟨k, c⟩ := e
    by_cases h : k = a
    · simp [Memory.erase, Memory.read, h, ih, Ne.symm hx]
    · simp [Memory.erase, Memory.read, h, ih]

theorem Memory.read_insert_same (m : Memory) (a : Nat) (c : Cell) (h : ∀ e ∈ m, e.1 ≠ a) :
    (m.insert a c).read a = c := by
  induction m with
  | nil => simp [Memory.insert, Memory.read]
  | cons e m ih =>
    obtain ⟨k, d⟩ := e
    have hk : k ≠ a := h (k, d) (by simp)
    have := ih fun e he => h e (by simp [he])
    by_cases hl : a < k <;> simp [Memory.insert, Memory.read, hl, hk, this]

theorem Memory.read_insert_other (m : Memory) (a x : Nat) (c : Cell) (hx : x ≠ a) :
    (m.insert a c).read x = m.read x := by
  induction m with
  | nil => simp [Memory.insert, Memory.read, Ne.symm hx]
  | cons e m ih =>
    obtain ⟨k, d⟩ := e
    by_cases hl : a < k <;> simp [Memory.insert, Memory.read, hl, ih, Ne.symm hx]

theorem Memory.erase_without (m : Memory) (a : Nat) : ∀ e ∈ m.erase a, e.1 ≠ a := by
  induction m with
  | nil => simp [Memory.erase]
  | cons e m ih =>
    obtain ⟨k, c⟩ := e
    by_cases h : k = a
    · simpa [Memory.erase, h] using ih
    · simpa [Memory.erase, h] using ih

/-- The word written is read. -/
@[simp] theorem Memory.read_write_same (m : Memory) (a : Nat) (c : Cell) : (m.write a c).read a = c := by
  by_cases h : c = emptyCell
  · simp [Memory.write, h, Memory.read_erase_same]
  · simp [Memory.write, h, Memory.read_insert_same _ a c (Memory.erase_without m a)]

/-- The other words are as before. -/
theorem Memory.read_write_other (m : Memory) (a x : Nat) (c : Cell) (hx : x ≠ a) :
    (m.write a c).read x = m.read x := by
  by_cases h : c = emptyCell
  · simp [Memory.write, h, Memory.read_erase_other m a x hx]
  · simp [Memory.write, h, Memory.read_insert_other _ a x c hx, Memory.read_erase_other m a x hx]

/-! ## The canonical form -/

theorem Memory.risesFrom_mono (m : Memory) (i j : Nat) (h : m.risesFrom j = true) (hij : i ≤ j) :
    m.risesFrom i = true := by
  cases m with
  | nil => rfl
  | cons e m =>
    simp only [Memory.risesFrom, Bool.and_eq_true, decide_eq_true_eq] at h ⊢
    exact ⟨⟨⟨by omega, h.1.1.2⟩, h.1.2⟩, h.2⟩

theorem Memory.risesFrom_erase (m : Memory) (i a : Nat) (h : m.risesFrom i = true) :
    (m.erase a).risesFrom i = true := by
  induction m generalizing i with
  | nil => rfl
  | cons e m ih =>
    obtain ⟨k, c⟩ := e
    simp only [Memory.risesFrom, Bool.and_eq_true, decide_eq_true_eq] at h
    have := ih (k + 1) h.2
    by_cases hk : k = a
    · simpa [Memory.erase, hk] using Memory.risesFrom_mono _ i (k + 1) this (by omega)
    · simp [Memory.erase, hk, Memory.risesFrom, h.1.1.1, h.1.1.2, h.1.2, this]

theorem Memory.risesFrom_insert (m : Memory) (i a : Nat) (c : Cell) (h : m.risesFrom i = true) (hi : i ≤ a)
    (ha : a < 32768) (hc : c ≠ emptyCell) (hm : ∀ e ∈ m, e.1 ≠ a) : (m.insert a c).risesFrom i = true := by
  induction m generalizing i with
  | nil => simp [Memory.insert, Memory.risesFrom, hi, ha, hc]
  | cons e m ih =>
    obtain ⟨k, d⟩ := e
    simp only [Memory.risesFrom, Bool.and_eq_true, decide_eq_true_eq] at h
    have hk : k ≠ a := hm (k, d) (by simp)
    by_cases hl : a < k
    · simp only [Memory.insert, hl, if_true, Memory.risesFrom, Bool.and_eq_true, decide_eq_true_eq]
      exact ⟨⟨⟨hi, ha⟩, hc⟩, ⟨⟨by omega, h.1.1.2⟩, h.1.2⟩, h.2⟩
    · have := ih (k + 1) h.2 (by omega) fun e he => hm e (by simp [he])
      simp [Memory.insert, hl, Memory.risesFrom, h.1.1.1, h.1.1.2, h.1.2, this]

/-- A write keeps the canonical form. -/
theorem Memory.wf_write (m : Memory) (a : Nat) (c : Cell) (h : m.wf = true) (ha : a < 32768) :
    (m.write a c).wf = true := by
  have he := Memory.risesFrom_erase m 0 a h
  by_cases hc : c = emptyCell
  · simpa [Memory.write, hc, Memory.wf] using he
  · simpa [Memory.write, hc, Memory.wf] using
      Memory.risesFrom_insert _ 0 a c he (Nat.zero_le a) ha hc (Memory.erase_without m a)

theorem Memory.wf_reset : State.reset.mem.wf = true := rfl

/-! ## One word of the state -/

@[simp] theorem State.setCell_cell_same (s : State) (a : Addr) (c : Cell) : (s.setCell a c).cell a = c := by
  simp [State.cell]

theorem State.setCell_cell_other (s : State) (a x : Addr) (c : Cell) (hx : x ≠ a) :
    (s.setCell a c).cell x = s.cell x := by
  have : x.toNat ≠ a.toNat := fun h => hx (BitVec.eq_of_toNat_eq h)
  simp [State.cell, Memory.read_write_other _ _ _ _ this]

/-- Writing one word keeps the canonical form of storage. -/
theorem State.setCell_wf (s : State) (a : Addr) (c : Cell) (h : s.mem.wf = true) : (s.setCell a c).mem.wf = true :=
  Memory.wf_write s.mem a.toNat c h a.isLt

/-- The data of a word as it enters storage. -/
@[simp] theorem dataOf_cellOf (v : Word) : dataOf (cellOf v) = v := by
  have h (x : BitVec 3) : (x ++ v).extractLsb' 0 48 = v := by
    apply BitVec.eq_of_getLsbD_eq
    intro i hi
    rw [BitVec.getLsbD_extractLsb', Nat.zero_add, BitVec.getLsbD_append]
    simp [hi]
  exact h (oddParity (functionPortion v) ++ oddParity (upperAddress v) ++ oddParity (lowerAddress v))

/-- A word that has just been written has good parity (rule R62). -/
@[simp] theorem badParity_cellOf (v : Word) : badParity (cellOf v) = false := by simp [badParity]

end Sys2Proof.Machine
end

