-- ==== Sys2Proof/Laws/Ops.lean ====
section
/-! SUPPORT. For each shared operation, what it answers and everything it can do when it answers a next state: what the
proofs about instructions cite instead of unfolding it. -/

namespace Sys2Proof.Machine

/-! ## Sequencing -/

@[simp] theorem andThen_next {α β : Type} (x : α) (f : α → Res β) : andThen (.next x) f = f x := rfl
@[simp] theorem andThen_fault {α β : Type} (x : Fault) (f : α → Res β) : andThen (.fault x) f = .fault x := rfl
@[simp] theorem andThen_refused {α β : Type} (x : Refusal) (f : α → Res β) : andThen (.refused x) f = .refused x := rfl

/-- A sequence answers a next state exactly when its first part does and its second does from there. -/
theorem andThen_eq_next {α β : Type} (r : Res α) (f : α → Res β) (y : β) :
    andThen r f = .next y ↔ ∃ x, r = .next x ∧ f x = .next y := by
  cases r <;> simp

/-! ## Storage references -/

theorem withRead_present {α : Type} (s : State) (a : Addr) (rest : Word → State → Res α) (h : s.present a = true) :
    withRead s a rest = rest (s.word a) (s.noteParity a) := by simp [withRead, h]

theorem withRead_eq_next {α : Type} (s : State) (a : Addr) (rest : Word → State → Res α) (t : α) :
    withRead s a rest = .next t ↔ s.present a = true ∧ rest (s.word a) (s.noteParity a) = .next t := by
  by_cases h : s.present a = true <;> simp [withRead, h]

/-- A checked write changes the word, or, out of bounds, sets bit 42 (rule R67). -/
theorem storeCell_eq_next (s : State) (a : Addr) (f : Cell → Cell) (t : State) :
    storeCell s a f = .next t ↔
      (s.allowed a = true ∧ s.present a = true ∧ s.setCell a (f (s.cell a)) = t) ∨
      (s.allowed a = false ∧ s.violation = t) := by
  by_cases h : s.allowed a = true <;> by_cases hp : s.present a = true <;> simp [storeCell, h, hp]

theorem storeCell_done (s : State) (a : Addr) (f : Cell → Cell) (h : s.allowed a = true) (hp : s.present a = true) :
    storeCell s a f = .next (s.setCell a (f (s.cell a))) := by simp [storeCell, h, hp]

theorem storeCell_out (s : State) (a : Addr) (f : Cell → Cell) (h : s.allowed a = false) :
    storeCell s a f = .next s.violation := by simp [storeCell, h]

/-! ## Sequence control -/

/-- Loading U stops the computer exactly when the word has bad parity (rule R456). -/
theorem loadU_eq_next (s t : State) :
    loadU s = .next t ↔ s.present s.p = true ∧
      ((badParity (s.cell s.p) = false ∧ { s with u := s.word s.p } = t) ∨
        (badParity (s.cell s.p) = true ∧
          { s with u := s.word s.p, irLatch := setBit s.irLatch 46, run := .stopped .instructionParity } = t)) := by
  by_cases hp : s.present s.p = true <;> by_cases h : badParity (s.cell s.p) = true <;>
    simp [loadU, hp, h, State.fault]

theorem loadU_good (s : State) (hp : s.present s.p = true) (h : badParity (s.cell s.p) = false) :
    loadU s = .next { s with u := s.word s.p } := by simp [loadU, hp, h]

@[simp] theorem enterAt_upper (s : State) (m : Addr) : enterAt s m .upper = .next (s.atUpper m) := rfl

/-- Outside a return word a normal jump goes to the upper instruction (rule R240). -/
theorem takeJump_plain (s : State) (m : Addr) (h : s.ret = none) : takeJump s m = .next (s.atUpper m) := by
  simp [takeJump, h]

theorem jumpAllowed_plain (s : State) (m : Addr) (h : s.ret = none) : s.jumpAllowed m = s.allowed m := by
  simp [State.jumpAllowed, h]

theorem jumpElse_in (s : State) (m : Addr) (f : State → State) (h : s.ret = none) (ha : s.allowed m = true) :
    jumpElse s m f = .next (s.atUpper m) := by simp [jumpElse, jumpAllowed_plain s m h, ha, takeJump_plain s m h]

theorem jumpElse_out (s : State) (m : Addr) (f : State → State) (h : s.ret = none) (ha : s.allowed m = false) :
    jumpElse s m f = .next (f s.violation) := by simp [jumpElse, jumpAllowed_plain s m h, ha]

@[simp] theorem State.through_p (s : State) (m v : Addr) : (s.through m v).p = m := rfl
@[simp] theorem State.through_h (s : State) (m v : Addr) : (s.through m v).h = .lower := rfl
@[simp] theorem State.through_u (s : State) (m v : Addr) : (s.through m v).u = dataOf (s.linked m v) := rfl
@[simp] theorem State.through_cell_same (s : State) (m v : Addr) : (s.through m v).cell m = s.linked m v :=
  State.setCell_cell_same s m _

theorem State.through_cell_other (s : State) (m v x : Addr) (hx : x ≠ m) : (s.through m v).cell x = s.cell x :=
  State.setCell_cell_other s m x _ hx

/-- With no other agent acting, a gap changes nothing (rule R74). -/
theorem gap_quiet (s : State) (h : s.Quiet) : gap s = .next s := by
  cases s
  simp only [State.Quiet] at h
  subst h
  rfl

/-- Everything a return jump's entry can do: other agents act once the address is stored, then U is loaded with word m
(rule R74, rule R241). -/
theorem enterThrough_eq_next (s t : State) (m v : Addr) :
    enterThrough s m v = .next t ↔ s.present m = true ∧
      ∃ r, gap (s.setCell m (s.linked m v)) = .next r ∧ loadU { r with p := m, h := .lower } = .next t := by
  by_cases hp : s.present m = true
  · rw [enterThrough, if_pos hp, andThen_eq_next]
    simp only [hp, true_and]
    exact Iff.rfl
  · simp [enterThrough, hp]

/-- With no other agent acting, U is loaded with the linked word: its lower instruction is next, or the computer stops
because the word is bad (rule R241, rule R456). -/
theorem enterThrough_quiet (s t : State) (m v : Addr) (hq : s.Quiet) :
    enterThrough s m v = .next t ↔ s.present m = true ∧
      ((badParity (s.linked m v) = false ∧ s.through m v = t) ∨
        (badParity (s.linked m v) = true ∧
          { s.through m v with irLatch := setBit s.irLatch 46, run := .stopped .instructionParity } = t)) := by
  have hc : ({ s.setCell m (s.linked m v) with p := m, h := Half.lower } : State).cell m = s.linked m v :=
    State.setCell_cell_same s m _
  rw [enterThrough_eq_next, gap_quiet (s.setCell m (s.linked m v)) hq]
  simp only [Host.Outcome.next.injEq, exists_eq_left', loadU_eq_next, State.word, hc]
  constructor
  · exact fun h => ⟨h.1, h.2.2⟩
  · exact fun h => ⟨h.1, h.1, h.2⟩

/-- A return jump, or an interrupt entry, into a word that is good afterwards (rule R241). -/
theorem enterThrough_done (s : State) (m v : Addr) (hq : s.Quiet) (h : s.enterable m v) :
    enterThrough s m v = .next (s.through m v) :=
  (enterThrough_quiet s _ m v hq).mpr ⟨h.1, .inl ⟨h.2, rfl⟩⟩

theorem returnJump_done (s : State) (m : Addr) (hq : s.Quiet) (ha : s.allowed m = true) (h : s.enterable m (s.p + 1)) :
    returnJump s m = .next (s.through m (s.p + 1)) := by
  rw [returnJump, if_pos ha, enterThrough_done s m _ hq h]

theorem returnJump_out (s : State) (m : Addr) (ha : s.allowed m = false) :
    returnJump s m = .next s.violation.advance := by simp [returnJump, ha]

/-- Category III stores P + 1 in word 00020 (rule R453). -/
theorem raiseCategoryIII_done (s : State) (hq : s.Quiet) (h : s.enterable 0o20 (s.p + 1)) :
    raiseCategoryIII s = .next (({ s with aug := none } : State).through 0o20 (s.p + 1)) :=
  enterThrough_done { s with aug := none } 0o20 (s.p + 1) hq h

/-! ## The end of an instruction -/

theorem sample_quiet (s : State) (h : s.interruptPending = false) : sample s = .next s := by simp [sample, h]
theorem sample_pending (s : State) (h : s.interruptPending = true) : sample s = enterCategoryI s := by simp [sample, h]

/-- The end of an instruction with no return under way, in a computer that still runs. -/
theorem finish_running (half : Half) (s : State) (hq : s.Quiet) (hr : s.run = .running) (hn : s.ret = none) :
    finish half s = sample (if half = .lower then { s with aug := none } else s) := by
  have h (t : State) (hq : t.Quiet) (hr : t.run = .running) (hn : t.ret = none) :
      (if t.ret.isSome && !t.unfinished then .refused .undefinedReturn
        else if t.isRunning then andThen (gap t) sample else .next t : Res State) = sample t := by
    simp [hn, State.isRunning, hr, gap_quiet t hq]
  cases half
  · exact h s hq hr hn
  · exact h { s with aug := none } hq hr hn

/-! ## Operands -/

/-- A designator other than 7 is no indirection (rule R101). -/
theorem resolve_direct (s : State) (b : BitVec 3) (m : Addr) (h : b ≠ 7) : Reaches s b m b m s := by
  rw [Reaches, resolve, if_neg h]

theorem withResolved_reaches (s : State) (b : BitVec 3) (m : Addr) (b' : BitVec 3) (m' : Addr) (s' : State)
    (h : Reaches s b m b' m' s') (rest : BitVec 3 → Addr → State → Res State) :
    withResolved s b m rest = rest b' m' s' := by
  unfold Reaches at h
  simp [withResolved, h]

theorem withEffective_reaches (s : State) (b : BitVec 3) (m : Addr) (b' : BitVec 3) (m' : Addr) (s' : State)
    (h : Reaches s b m b' m' s') (rest : Addr → State → Res State) :
    withEffective s b m rest = rest (modified s' b' m') s' :=
  withResolved_reaches s b m b' m' s' h _

theorem withOperand_reaches (s : State) (b : BitVec 3) (m : Addr) (b' : BitVec 3) (m' : Addr) (s' : State)
    (h : Reaches s b m b' m' s') (hp : s'.present (modified s' b' m') = true) (rest : Word → State → Res State) :
    withOperand s b m rest = rest (s'.word (modified s' b' m')) (s'.noteParity (modified s' b' m')) := by
  rw [withOperand, withEffective_reaches s b m b' m' s' h, withRead_present _ _ _ hp]

/-- What an instruction whose addressing is indirect can do: go on from where it leads, or never end. -/
theorem withResolved_eq_next (s : State) (b : BitVec 3) (m : Addr) (rest : BitVec 3 → Addr → State → Res State)
    (t : State) (h : withResolved s b m rest = .next t) :
    (∃ b' m' s', Reaches s b m b' m' s' ∧ rest b' m' s' = .next t) ∨
      ∃ s', resolve b m s = .next (.endless s') ∧ t = { s' with run := .hung } := by
  rw [withResolved, andThen_eq_next] at h
  obtain ⟨r, hr, h⟩ := h
  cases r with
  | done b' m' s' => exact .inl ⟨b', m', s', hr, h⟩
  | endless s' => exact .inr ⟨s', hr, by simpa using h.symm⟩

/-- The final designator names a register or none: it is not 7 (rule R101). -/
theorem resolveFrom_designator (n : Nat) (b : BitVec 3) (m : Addr) (s : State) (b' : BitVec 3) (m' : Addr) (s' : State)
    (h : resolveFrom n b m s = .next (.done b' m' s')) : b' ≠ 7 := by
  induction n generalizing b m s with
  | zero => simp [resolveFrom] at h
  | succ n ih =>
    by_cases hb : b = 7
    · simp only [resolveFrom, hb, if_true, withRead_eq_next, andThen_eq_next] at h
      obtain ⟨-, x, -, h⟩ := h
      exact ih _ _ _ h
    · simp only [resolveFrom, hb, if_false, Host.Outcome.next.injEq, Resolved.done.injEq] at h
      exact h.1 ▸ hb

theorem Reaches.designator {s : State} {b : BitVec 3} {m : Addr} {b' : BitVec 3} {m' : Addr} {s' : State}
    (h : Reaches s b m b' m' s') : b' ≠ 7 := by
  by_cases hb : b = 7
  · exact resolveFrom_designator _ _ _ _ _ _ _ (by simpa [Reaches, resolve, hb] using h)
  · simp only [Reaches, resolve, hb, if_false, Host.Outcome.next.injEq, Resolved.done.injEq] at h
    exact h.1 ▸ hb

/-! ## Index registers and channels -/

@[simp] theorem IndexRegs.get_zero (r : IndexRegs) : r.get 0 = 0 := rfl
@[simp] theorem IndexRegs.get_seven (r : IndexRegs) : r.get 7 = 0 := rfl
@[simp] theorem IndexRegs.set_zero (r : IndexRegs) (v : Addr) : r.set 0 v = r := rfl
@[simp] theorem IndexRegs.set_seven (r : IndexRegs) (v : Addr) : r.set 7 v = r := rfl

@[simp] theorem Channels.get_set_same (cs : Channels) (x : Nat) (c : Channel) : (cs.set x c).get x = c := by
  match x with
  | 0 | 1 | 2 => rfl
  | n + 3 => rfl

theorem Channels.get_set_other (cs : Channels) (x y : Nat) (c : Channel) (hx : x < 4) (hy : y < 4) (h : y ≠ x) :
    (cs.set x c).get y = cs.get y := by
  have : x = 0 ∨ x = 1 ∨ x = 2 ∨ x = 3 := by omega
  have : y = 0 ∨ y = 1 ∨ y = 2 ∨ y = 3 := by omega
  rcases ‹x = 0 ∨ _› with rfl | rfl | rfl | rfl <;> rcases ‹y = 0 ∨ _› with rfl | rfl | rfl | rfl <;>
    first | rfl | exact absurd rfl h

@[simp] theorem State.setChannel_channel_same (s : State) (x : Nat) (c : Channel) : (s.setChannel x c).channel x = c :=
  Channels.get_set_same s.channels x c

/-! ## Channels whose equipments change -/

@[simp] theorem Channels.share_get_same (cs : Channels) (x : Nat) (hx : x < 4) : (cs.share x).get x = cs.get x := by
  have : x = 0 ∨ x = 1 ∨ x = 2 ∨ x = 3 := by omega
  rcases this with rfl | rfl | rfl | rfl <;> rfl

theorem Channels.share_get_other (cs : Channels) (x y : Nat) (hy : y < 4) (h : y ≠ x) :
    (cs.share x).get y = (cs.get y).follow y (cs.get x).equips := by
  have : y = 0 ∨ y = 1 ∨ y = 2 ∨ y = 3 := by omega
  rcases this with rfl | rfl | rfl | rfl <;> simp [Channels.share, Channels.get, h]

@[simp] theorem State.putChannel_channel_same (s : State) (x : Nat) (c : Channel) (hx : x < 4) :
    (s.putChannel x c).channel x = c := by
  simp [State.putChannel, State.channel, hx]

/-- On another channel only what it shares with channel x changes. -/
theorem State.putChannel_channel_other (s : State) (x y : Nat) (c : Channel) (hx : x < 4) (hy : y < 4) (h : y ≠ x) :
    (s.putChannel x c).channel y = (s.channel y).follow y c.equips := by
  simp only [State.putChannel, State.channel]
  rw [Channels.share_get_other _ x y hy h, Channels.get_set_other s.channels x y c hx hy h, Channels.get_set_same]

end Sys2Proof.Machine
end

