-- ==== Sys2Proof/Laws/Agents.lean ====
section
/-! SUPPORT. What the other agents leave alone: whatever happens inside an instruction, A, Q, the index registers, the
mask, the bounds and the interrupt flip-flops, and the place of the run, are as they were, and no fault bit is
cleared. -/

namespace Sys2Proof.Machine

/-! ## Bits -/

theorem setBit_get (w : Word) (n i : Nat) (h : w.getLsbD i = true) : (setBit w n).getLsbD i = true := by
  simp [setBit, h]

theorem clearBit_get_other (w : Word) (n i : Nat) (hi : i ≠ n) : (clearBit w n).getLsbD i = w.getLsbD i := by
  by_cases hl : i < 48
  · simp only [clearBit, BitVec.getLsbD_and, BitVec.getLsbD_not, BitVec.getLsbD_shiftLeft, hl, decide_true,
      Bool.true_and]
    by_cases hn : i < n
    · simp [hn]
    · have : i - n ≠ 0 := by omega
      simp [hn, this]
  · rw [BitVec.getLsbD_of_ge _ _ (by omega), BitVec.getLsbD_of_ge _ _ (by omega)]

/-! ## The frame of another agent's action -/

/-- What an action of another agent that takes effect inside an instruction leaves as it was. -/
structure AgentFrame (s t : State) : Prop where
  a : t.a = s.a
  q : t.q = s.q
  b : t.b = s.b
  im : t.im = s.im
  bl : t.bl = s.bl
  bu : t.bu = s.bu
  active : t.active = s.active
  catI : t.catI = s.catI
  catII : t.catII = s.catII
  params : t.params = s.params
  aug : t.aug = s.aug
  ret : t.ret = s.ret
  p : t.p = s.p
  h : t.h = s.h
  u : t.u = s.u
  run : (∀ x, s.run ≠ .loading x) → t.run = s.run
  faults : ∀ n, s.irLatch.getLsbD n = true → t.irLatch.getLsbD n = true

theorem AgentFrame.refl (s : State) : AgentFrame s s :=
  ⟨rfl, rfl, rfl, rfl, rfl, rfl, rfl, rfl, rfl, rfl, rfl, rfl, rfl, rfl, rfl, fun _ => rfl, fun _ h => h⟩

theorem AgentFrame.trans {s t r : State} (h : AgentFrame s t) (k : AgentFrame t r) : AgentFrame s r :=
  ⟨k.a.trans h.a, k.q.trans h.q, k.b.trans h.b, k.im.trans h.im, k.bl.trans h.bl, k.bu.trans h.bu,
    k.active.trans h.active, k.catI.trans h.catI, k.catII.trans h.catII, k.params.trans h.params, k.aug.trans h.aug,
    k.ret.trans h.ret, k.p.trans h.p, k.h.trans h.h, k.u.trans h.u,
    fun hl => (k.run fun x e => hl x ((h.run hl).symm.trans e)).trans (h.run hl), fun n hn => k.faults n (h.faults n hn)⟩

/-! ## The updates it is made of -/

theorem frame_setChannel (s : State) (x : Nat) (c : Channel) : AgentFrame s (s.setChannel x c) :=
  ⟨rfl, rfl, rfl, rfl, rfl, rfl, rfl, rfl, rfl, rfl, rfl, rfl, rfl, rfl, rfl, fun _ => rfl, fun _ h => h⟩

theorem frame_putChannel (s : State) (x : Nat) (c : Channel) : AgentFrame s (s.putChannel x c) :=
  ⟨rfl, rfl, rfl, rfl, rfl, rfl, rfl, rfl, rfl, rfl, rfl, rfl, rfl, rfl, rfl, fun _ => rfl, fun _ h => h⟩

theorem frame_setCell (s : State) (x : Addr) (c : Cell) : AgentFrame s (s.setCell x c) :=
  ⟨rfl, rfl, rfl, rfl, rfl, rfl, rfl, rfl, rfl, rfl, rfl, rfl, rfl, rfl, rfl, fun _ => rfl, fun _ h => h⟩

theorem frame_drawn (s : State) (n : Nat) : AgentFrame s (s.drawn n) :=
  ⟨rfl, rfl, rfl, rfl, rfl, rfl, rfl, rfl, rfl, rfl, rfl, rfl, rfl, rfl, rfl, fun _ => rfl, fun _ h => h⟩

theorem frame_faultIf (s : State) (c : Bool) (n : Nat) : AgentFrame s (s.faultIf c n) := by
  refine ⟨rfl, rfl, rfl, rfl, rfl, rfl, rfl, rfl, rfl, rfl, rfl, rfl, rfl, rfl, rfl, fun _ => rfl, fun i h => ?_⟩
  cases c
  · exact h
  · exact setBit_get _ _ _ h

theorem frame_noteParity (s : State) (x : Addr) : AgentFrame s (s.noteParity x) := frame_faultIf s _ _

/-! ## The channel's operations -/

theorem frame_endOperation (s : State) (x : Nat) : AgentFrame s (endOperation s x) := by
  have hf := (frame_putChannel s x
    { s.channel x with
      act := false
      asm := []
      out := []
      fullCount := false
      equips := mapConnected (deviceEnd x (s.channel x).dir) (s.channel x).equips }).trans
    (frame_faultIf _ (s.im.getLsbD (10 + x) || s.params.latchUnmasked) (10 + x))
  refine ⟨hf.a, hf.q, hf.b, hf.im, hf.bl, hf.bu, hf.active, hf.catI, hf.catII, hf.params, hf.aug, hf.ret, hf.p, hf.h,
    hf.u, fun hl => ?_, hf.faults⟩
  cases hr : s.run with
  | loading y => exact absurd hr (hl y)
  | _ => simp only [endOperation, hr]

theorem frame_storeInput (s t : State) (x : Nat) (w : Word) (h : storeInput s x w = .next t) : AgentFrame s t := by
  simp only [storeInput] at h
  split at h
  · cases h
    exact (frame_setCell s _ _).trans (frame_setChannel _ _ _)
  · cases h

theorem frame_inputByte (s t : State) (x : Nat) (b : Byte12) (h : inputByte s x b = .next t) : AgentFrame s t := by
  simp only [inputByte] at h
  split at h
  · split at h
    · cases h
      exact frame_endOperation _ _
    · have hc (c : Channel) (f : Bool) := (frame_setChannel s x c).trans (frame_faultIf (s.setChannel x c) f (20 + x))
      split at h
      · cases h
        exact hc _ _
      · rw [andThen_eq_next] at h
        obtain ⟨r, hr, h⟩ := h
        have hs := (hc _ _).trans (frame_storeInput _ _ _ _ hr)
        cases h
        split
        · exact hs.trans (frame_endOperation _ _)
        · exact hs
  · cases h
    exact .refl s

theorem frame_endOfRecord (s t : State) (x : Nat) (h : endOfRecord s x = .next t) : AgentFrame s t := by
  simp only [endOfRecord] at h
  split at h
  · split at h
    · cases h
      exact frame_endOperation _ _
    · split at h
      · cases h
        exact (frame_drawn s 2).trans (frame_endOperation _ _)
      · rw [andThen_eq_next] at h
        obtain ⟨r, hr, h⟩ := h
        cases h
        exact ((frame_drawn s 2).trans (frame_storeInput _ _ _ _ hr)).trans (frame_endOperation _ _)
  · cases h
    exact .refl s

theorem frame_withChannelRead (s t : State) (x : Nat) (a : Addr) (rest : Word → State → Res State)
    (hrest : ∀ w r, rest w r = .next t → AgentFrame r t) (h : withChannelRead s x a rest = .next t) :
    AgentFrame s t := by
  simp only [withChannelRead] at h
  split at h
  · exact ((frame_noteParity s a).trans (frame_faultIf _ _ _)).trans (hrest _ _ h)
  · cases h

theorem frame_channelCycle (s t : State) (x : Nat) (h : channelCycle s x = .next t) : AgentFrame s t := by
  simp only [channelCycle] at h
  split at h
  · split at h
    · cases h
      exact frame_endOperation _ _
    · split at h
      · refine frame_withChannelRead _ _ _ _ _ (fun w r hr => ?_) h
        cases hr
        exact frame_setChannel _ _ _
      · cases h
        exact .refl s
  · cases h
    exact .refl s

theorem frame_acceptByte (s t : State) (x : Nat) (bad : Bool) (h : acceptByte s x bad = .next t) : AgentFrame s t := by
  simp only [acceptByte] at h
  split at h
  · cases h
    exact .refl s
  · have hc (c : Channel) (f : Bool) := (frame_putChannel s x c).trans (frame_faultIf (s.putChannel x c) f (20 + x))
    split at h
    · cases h
      split
      · exact (hc _ _).trans (frame_endOperation _ _)
      · exact hc _ _
    · cases h
      exact .refl s

theorem frame_receive (x : Nat) (l : List Signal) (s t : State) (h : receive x l s = .next t) : AgentFrame s t := by
  induction l generalizing s with
  | nil =>
    cases h
    exact .refl _
  | cons g l ih =>
    cases g
    · rw [receive, andThen_eq_next] at h
      obtain ⟨r, hr, h⟩ := h
      exact (frame_inputByte _ _ _ _ hr).trans (ih _ h)
    · rw [receive, andThen_eq_next] at h
      obtain ⟨r, hr, h⟩ := h
      exact (frame_endOfRecord _ _ _ hr).trans (ih _ h)

theorem frame_equipmentEvent (s t : State) (x i : Nat) (e : Happening) (h : equipmentEvent s x i e = .next t) :
    AgentFrame s t := by
  simp only [equipmentEvent] at h
  split at h
  · cases h
    exact .refl s
  · exact ((frame_putChannel _ _ _).trans (frame_drawn _ _)).trans (frame_receive _ _ _ _ h)

/-! ## Any action inside an instruction -/

theorem frame_operate (s t : State) (r : Res State) (hr : r = .next t → AgentFrame s t) (h : operate s r = .next t) :
    AgentFrame s t := by
  unfold operate at h
  split at h
  · exact hr h
  · cases h
    exact .refl s

/-- What an action of another agent that takes effect at once leaves as it was. -/
theorem frame_agentEvent (e : Event) (s t : State) (h : agentEvent e s = .next t) : AgentFrame s t := by
  cases e
  case tick =>
    simp only [agentEvent, tick] at h
    split at h
    · cases h
      exact ⟨rfl, rfl, rfl, rfl, rfl, rfl, rfl, rfl, rfl, rfl, rfl, rfl, rfl, rfl, rfl, fun _ => rfl, fun _ h => setBit_get _ _ _ h⟩
    · cases h
      exact .refl s
  case manualInterrupt =>
    refine frame_operate _ _ _ (fun hr => ?_) h
    cases hr
    exact frame_faultIf _ _ _
  case endOfRecordSwitch =>
    refine frame_operate _ _ _ (fun hr => ?_) h
    simp only [endOfRecordSwitch] at hr
    split at hr
    · exact frame_endOfRecord _ _ _ hr
    · cases hr
      exact .refl s
  case jumpSwitch j on =>
    refine frame_operate _ _ _ (fun hr => ?_) h
    cases hr
    exact ⟨rfl, rfl, rfl, rfl, rfl, rfl, rfl, rfl, rfl, rfl, rfl, rfl, rfl, rfl, rfl, fun _ => rfl, fun _ h => h⟩
  case stopSwitch j on =>
    refine frame_operate _ _ _ (fun hr => ?_) h
    cases hr
    exact ⟨rfl, rfl, rfl, rfl, rfl, rfl, rfl, rfl, rfl, rfl, rfl, rfl, rfl, rfl, rfl, fun _ => rfl, fun _ h => h⟩
  case corrupt a f =>
    simp only [agentEvent] at h
    split at h <;> cases h
    · exact frame_setCell _ _ _
    · exact .refl s
  case channelCycle x => exact frame_channelCycle _ _ _ h
  case acceptByte x bad => exact frame_acceptByte _ _ _ _ h
  case equipment x i e =>
    simp only [agentEvent] at h
    split at h
    · exact frame_operate _ _ _ (frame_equipmentEvent _ _ _ _ _) h
    · exact frame_equipmentEvent _ _ _ _ _ h
  case equipmentNumber x i n =>
    simp only [agentEvent] at h
    split at h
    · refine frame_operate _ _ _ (fun hr => ?_) h
      cases hr
      exact frame_putChannel _ _ _
    · cases h
      exact frame_putChannel _ _ _
  all_goals
    cases h
    exact ⟨rfl, rfl, rfl, rfl, rfl, rfl, rfl, rfl, rfl, rfl, rfl, rfl, rfl, rfl, rfl, fun _ => rfl, fun _ h => h⟩

theorem frame_gapFrom (l : List (Nat × Event)) (s t : State) (h : gapFrom l s = .next t) : AgentFrame s t := by
  induction l generalizing s with
  | nil =>
    cases h
    exact ⟨rfl, rfl, rfl, rfl, rfl, rfl, rfl, rfl, rfl, rfl, rfl, rfl, rfl, rfl, rfl, fun _ => rfl, fun _ h => h⟩
  | cons p l ih =>
    obtain ⟨n, e⟩ := p
    cases n
    · rw [gapFrom, andThen_eq_next] at h
      obtain ⟨r, hr, h⟩ := h
      exact (frame_agentEvent _ _ _ hr).trans (ih _ h)
    · cases h
      exact ⟨rfl, rfl, rfl, rfl, rfl, rfl, rfl, rfl, rfl, rfl, rfl, rfl, rfl, rfl, rfl, fun _ => rfl, fun _ h => h⟩

/-- What a gap between two storage references leaves as it was. -/
theorem frame_gap (s t : State) (h : gap s = .next t) : AgentFrame s t := frame_gapFrom _ _ _ h

/-- What an entry by return jump leaves as it was: all but the place of the run, which is the lower half of m. -/
theorem frame_enterThrough (s t : State) (m v : Addr) (h : enterThrough s m v = .next t) :
    t.p = m ∧ t.h = .lower ∧ AgentFrame s { t with p := s.p, h := s.h, u := s.u, run := s.run } := by
  obtain ⟨-, r, hr, h⟩ := (enterThrough_eq_next s t m v).mp h
  have hf := (frame_setCell s m (s.linked m v)).trans (frame_gap _ _ hr)
  obtain ⟨-, ⟨-, rfl⟩ | ⟨-, rfl⟩⟩ := (loadU_eq_next _ _).mp h
  · exact ⟨rfl, rfl, hf.a, hf.q, hf.b, hf.im, hf.bl, hf.bu, hf.active, hf.catI, hf.catII, hf.params, hf.aug, hf.ret,
      rfl, rfl, rfl, fun _ => rfl, hf.faults⟩
  · exact ⟨rfl, rfl, hf.a, hf.q, hf.b, hf.im, hf.bl, hf.bu, hf.active, hf.catI, hf.catII, hf.params, hf.aug, hf.ret,
      rfl, rfl, rfl, fun _ => rfl, fun n hn => setBit_get _ _ _ (hf.faults n hn)⟩

/-- The state in which indirect addressing ends, or never ends. -/
def endState : Resolved → State
  | .done _ _ t => t
  | .endless t => t

/-- What indirect addressing leaves as it was. -/
theorem frame_resolveFrom (n : Nat) (b : BitVec 3) (m : Addr) (s : State) (r : Resolved)
    (h : resolveFrom n b m s = .next r) : AgentFrame s (endState r) := by
  induction n generalizing b m s with
  | zero =>
    cases h
    exact .refl _
  | succ n ih =>
    rw [resolveFrom] at h
    split at h
    · rw [withRead_eq_next, andThen_eq_next] at h
      obtain ⟨-, x, hx, h⟩ := h
      have hs := (frame_noteParity s m).trans (frame_gap _ _ hx)
      exact hs.trans (ih _ _ _ h)
    · cases h
      exact .refl _

theorem Reaches.frame {s : State} {b : BitVec 3} {m : Addr} {b' : BitVec 3} {m' : Addr} {t : State}
    (h : Reaches s b m b' m' t) : AgentFrame s t := by
  unfold Reaches resolve at h
  split at h
  · exact frame_resolveFrom _ _ _ _ _ h
  · cases h
    exact .refl s

/-! ## Indirect addressing with no other agent acting -/

theorem setBit_setBit (w : Word) (n : Nat) : setBit (setBit w n) n = setBit w n := by
  simp [setBit, BitVec.or_assoc]

/-- With no other agent acting, a reference notes bad parity once and for all. -/
theorem noteParity_cases (s : State) (a : Addr) : s.noteParity a = s ∨ s.noteParity a = s.fault 45 := by
  cases h : badParity (s.cell a)
  · exact .inl (State.noteParity_good s a h)
  · exact .inr (by rw [State.noteParity, h, State.faultIf_true])

theorem quiet_resolveFrom (n : Nat) (b : BitVec 3) (m : Addr) (s : State) (hq : s.Quiet) (r : Resolved)
    (h : resolveFrom n b m s = .next r) : endState r = s ∨ endState r = s.fault 45 := by
  induction n generalizing b m s with
  | zero =>
    cases h
    exact .inl rfl
  | succ n ih =>
    rw [resolveFrom] at h
    split at h
    · rw [withRead_eq_next, gap_quiet (s.noteParity m) hq, andThen_next] at h
      have := ih _ _ (s.noteParity m) hq h.2
      have hf : (s.fault 45).fault 45 = s.fault 45 := by simp only [State.fault, setBit_setBit]
      rcases noteParity_cases s m with e | e <;> rw [e] at this
      · exact this
      · exact .inr (by simpa only [hf, or_self] using this)
    · cases h
      exact .inl rfl

/-- With no other agent acting, indirect addressing does nothing but note bad parity (rule R66, rule R101). -/
theorem Reaches.quiet {s : State} {b : BitVec 3} {m : Addr} {b' : BitVec 3} {m' : Addr} {t : State} (hq : s.Quiet)
    (h : Reaches s b m b' m' t) : t = s ∨ t = s.fault 45 := by
  unfold Reaches resolve at h
  split at h
  · exact quiet_resolveFrom _ _ _ _ hq _ h
  · cases h
    exact .inl rfl

/-! ## One equipment -/

/-- An equipment that shares no machine follows no other. -/
theorem equipmentFollow_own (x : Nat) (src : List Equipment) (e : Equipment) (h : e.machine = none) :
    equipmentFollow x src e = e := by simp [equipmentFollow, h]

@[simp] theorem equipmentFollow_connected (x : Nat) (src : List Equipment) (e : Equipment) :
    (equipmentFollow x src e).connected = e.connected := by unfold equipmentFollow; split <;> rfl
@[simp] theorem equipmentFollow_gated (x : Nat) (src : List Equipment) (e : Equipment) :
    (equipmentFollow x src e).gated = e.gated := by unfold equipmentFollow; split <;> rfl
@[simp] theorem equipmentFollow_number (x : Nat) (src : List Equipment) (e : Equipment) :
    (equipmentFollow x src e).number = e.number := by unfold equipmentFollow; split <;> rfl
@[simp] theorem equipmentFollow_machine (x : Nat) (src : List Equipment) (e : Equipment) :
    (equipmentFollow x src e).machine = e.machine := by unfold equipmentFollow; split <;> rfl

/-- A clear meets each equipment of its channel in its place. -/
theorem clearAll_getElem? (x : Nat) (op : Option Direction) (k : ClearScope) (es : List Equipment) (i : Nat) :
    (clearAll x op k es)[i]? = es[i]?.map fun e =>
      { e with connected := false, gated := false, device := deviceClear (e.link x op) k e.device } := by
  simp [clearAll]

end Sys2Proof.Machine
end

