-- ==== Sys2Proof/Laws/PerInstr.lean ====
section
/-! SUPPORT. The family of statements made of every instruction: the number of bits of its code. -/

namespace Sys2Proof.Laws.EncodeWidth

/-- The instructions that fill a whole program step (rule R96): Class III, LDC and STC, and the illegal code 74.7. -/
def fillsStep : Instr → Bool
  | .conn _ _ _ | .extf _ _ _ | .begr _ _ _ | .begw _ _ _ | .copy _ _ _ | .clch _ _ _ | .ccwd _ _ _ => true
  | .ill747 _ | .ldc _ _ _ | .stc _ _ _ => true
  | _ => false

/-- An instruction is encoded in 48 bits if it fills a program step, and else in 24 bits whose function code is not one
of the two that need a whole step (rule R91 to rule R96). -/
def Statement (i : Instr) : Prop :=
  match encode i with
  | .half w => fillsStep i = false ∧ w.extractLsb' 18 6 ≠ 0o63#6 ∧ w.extractLsb' 18 6 ≠ 0o74#6
  | .full w => fillsStep i = true ∧ (w.extractLsb' 42 6 = 0o63#6 ∨ w.extractLsb' 42 6 = 0o74#6)

/-- Bits above the lower part of a concatenation are bits of its upper part. -/
theorem extract_above {u v : Nat} (x : BitVec u) (y : BitVec v) (k n : Nat) :
    (x ++ y).extractLsb' (v + k) n = x.extractLsb' k n := by
  apply BitVec.eq_of_getLsbD_eq
  intro i hi
  have h1 : ¬v + k + i < v := by omega
  have h2 : v + k + i - v = k + i := by omega
  rw [BitVec.getLsbD_extractLsb', BitVec.getLsbD_extractLsb', BitVec.getLsbD_append]
  simp only [h1, h2, if_false]

theorem extract_all (x : BitVec 6) : x.extractLsb' 0 6 = x := BitVec.extractLsb'_eq_self

/-- The function code of a 24-bit code is its highest six bits. -/
theorem code_top (f : BitVec 6) (x : BitVec 18) : (f ++ x : HalfWord).extractLsb' 18 6 = f :=
  (extract_above f x 0 6).trans (extract_all f)

/-- The function code of the Class I layout. -/
theorem format1_top (f : BitVec 6) (b : BitVec 3) (a : Addr) : (format1 f b a).extractLsb' 18 6 = f :=
  (extract_above (f ++ b) a 3 6).trans <| (extract_above f b 0 6).trans (extract_all f)

/-- Codes of the Class I layout are 24 bits long. -/
theorem statement_format1 (i : Instr) (f : BitVec 6) (b : BitVec 3) (a : Addr)
    (he : encode i = .half (format1 f b a)) (hl : fillsStep i = false) (h1 : f ≠ 0o63#6) (h2 : f ≠ 0o74#6) :
    Statement i := by
  simp only [Statement, he, format1_top]
  exact ⟨hl, h1, h2⟩

/-- Codes of six bits and a rest that means nothing are 24 bits long. -/
theorem statement_rest (i : Instr) (f : BitVec 6) (r : BitVec 18)
    (he : encode i = .half (f ++ r)) (hl : fillsStep i = false) (h1 : f ≠ 0o63#6) (h2 : f ≠ 0o74#6) : Statement i := by
  simp only [Statement, he, code_top]
  exact ⟨hl, h1, h2⟩

/-- The function code of the Class III layout. -/
theorem format3_top (s : BitVec 3) (n : Addr) (x : BitVec 3) (m : Addr) :
    (format3 s n x m).extractLsb' 42 6 = 0o74#6 :=
  (extract_above (0o74#6 ++ s ++ n ++ 0#3 ++ x ++ 0#3) m 27 6).trans <|
    (extract_above (0o74#6 ++ s ++ n ++ 0#3 ++ x) 0#3 24 6).trans <|
    (extract_above (0o74#6 ++ s ++ n ++ 0#3) x 21 6).trans <|
    (extract_above (0o74#6 ++ s ++ n) 0#3 18 6).trans <|
    (extract_above (0o74#6 ++ s) n 3 6).trans <| (extract_above 0o74#6 s 0 6).trans (extract_all _)

/-- The function code of the layout of LDC and STC. -/
theorem format4_top (b v d : BitVec 3) (m : Addr) : (format4 b v d m).extractLsb' 42 6 = 0o63#6 :=
  (extract_above (0o63#6 ++ b ++ v ++ 0o0006#12 ++ 0o50#6 ++ d) m 27 6).trans <|
    (extract_above (0o63#6 ++ b ++ v ++ 0o0006#12 ++ 0o50#6) d 24 6).trans <|
    (extract_above (0o63#6 ++ b ++ v ++ 0o0006#12) 0o50#6 18 6).trans <|
    (extract_above (0o63#6 ++ b ++ v) 0o0006#12 6 6).trans <|
    (extract_above (0o63#6 ++ b) v 3 6).trans <| (extract_above 0o63#6 b 0 6).trans (extract_all _)

/-- Codes of the Class III layout are 48 bits long. -/
theorem statement_format3 (i : Instr) (s : BitVec 3) (n : Addr) (x : BitVec 3) (m : Addr)
    (he : encode i = .full (format3 s n x m)) (hl : fillsStep i = true) : Statement i := by
  simp only [Statement, he, format3_top]
  exact ⟨hl, .inr trivial⟩

/-- Codes of the layout of LDC and STC are 48 bits long. -/
theorem statement_format4 (i : Instr) (b v d : BitVec 3) (m : Addr)
    (he : encode i = .full (format4 b v d m)) (hl : fillsStep i = true) : Statement i := by
  simp only [Statement, he, format4_top]
  exact ⟨hl, .inl trivial⟩

theorem iaq : Statement .iaq := ⟨rfl, by decide, by decide⟩
theorem ati (b : BitVec 3) : Statement (.ati b) := ⟨rfl, by revert b; decide, by revert b; decide⟩
theorem ars (b : BitVec 3) (k : Addr) : Statement (.ars b k) := statement_format1 _ _ _ _ rfl rfl (by decide) (by decide)
theorem qrs (b : BitVec 3) (k : Addr) : Statement (.qrs b k) := statement_format1 _ _ _ _ rfl rfl (by decide) (by decide)
theorem lrs (b : BitVec 3) (k : Addr) : Statement (.lrs b k) := statement_format1 _ _ _ _ rfl rfl (by decide) (by decide)
theorem enq (b : BitVec 3) (y : Addr) : Statement (.enq b y) := statement_format1 _ _ _ _ rfl rfl (by decide) (by decide)
theorem als (b : BitVec 3) (k : Addr) : Statement (.als b k) := statement_format1 _ _ _ _ rfl rfl (by decide) (by decide)
theorem qls (b : BitVec 3) (k : Addr) : Statement (.qls b k) := statement_format1 _ _ _ _ rfl rfl (by decide) (by decide)
theorem lls (b : BitVec 3) (k : Addr) : Statement (.lls b k) := statement_format1 _ _ _ _ rfl rfl (by decide) (by decide)
theorem ena (b : BitVec 3) (y : Addr) : Statement (.ena b y) := statement_format1 _ _ _ _ rfl rfl (by decide) (by decide)
theorem ina (b : BitVec 3) (y : Addr) : Statement (.ina b y) := statement_format1 _ _ _ _ rfl rfl (by decide) (by decide)
theorem lda (b : BitVec 3) (m : Addr) : Statement (.lda b m) := statement_format1 _ _ _ _ rfl rfl (by decide) (by decide)
theorem lac (b : BitVec 3) (m : Addr) : Statement (.lac b m) := statement_format1 _ _ _ _ rfl rfl (by decide) (by decide)
theorem add (b : BitVec 3) (m : Addr) : Statement (.add b m) := statement_format1 _ _ _ _ rfl rfl (by decide) (by decide)
theorem sub (b : BitVec 3) (m : Addr) : Statement (.sub b m) := statement_format1 _ _ _ _ rfl rfl (by decide) (by decide)
theorem ldq (b : BitVec 3) (m : Addr) : Statement (.ldq b m) := statement_format1 _ _ _ _ rfl rfl (by decide) (by decide)
theorem lqc (b : BitVec 3) (m : Addr) : Statement (.lqc b m) := statement_format1 _ _ _ _ rfl rfl (by decide) (by decide)
theorem sta (b : BitVec 3) (m : Addr) : Statement (.sta b m) := statement_format1 _ _ _ _ rfl rfl (by decide) (by decide)
theorem stq (b : BitVec 3) (m : Addr) : Statement (.stq b m) := statement_format1 _ _ _ _ rfl rfl (by decide) (by decide)
theorem mui (b : BitVec 3) (m : Addr) : Statement (.mui b m) := statement_format1 _ _ _ _ rfl rfl (by decide) (by decide)
theorem dvi (b : BitVec 3) (m : Addr) : Statement (.dvi b m) := statement_format1 _ _ _ _ rfl rfl (by decide) (by decide)
theorem fad (b : BitVec 3) (m : Addr) : Statement (.fad b m) := statement_format1 _ _ _ _ rfl rfl (by decide) (by decide)
theorem fsb (b : BitVec 3) (m : Addr) : Statement (.fsb b m) := statement_format1 _ _ _ _ rfl rfl (by decide) (by decide)
theorem fmu (b : BitVec 3) (m : Addr) : Statement (.fmu b m) := statement_format1 _ _ _ _ rfl rfl (by decide) (by decide)
theorem fdv (b : BitVec 3) (m : Addr) : Statement (.fdv b m) := statement_format1 _ _ _ _ rfl rfl (by decide) (by decide)
theorem sca (b : BitVec 3) (k : Addr) : Statement (.sca b k) := statement_format1 _ _ _ _ rfl rfl (by decide) (by decide)
theorem scq (b : BitVec 3) (k : Addr) : Statement (.scq b k) := statement_format1 _ _ _ _ rfl rfl (by decide) (by decide)
theorem ssk (b : BitVec 3) (m : Addr) : Statement (.ssk b m) := statement_format1 _ _ _ _ rfl rfl (by decide) (by decide)
theorem ssh (b : BitVec 3) (m : Addr) : Statement (.ssh b m) := statement_format1 _ _ _ _ rfl rfl (by decide) (by decide)
theorem sst (b : BitVec 3) (m : Addr) : Statement (.sst b m) := statement_format1 _ _ _ _ rfl rfl (by decide) (by decide)
theorem scl (b : BitVec 3) (m : Addr) : Statement (.scl b m) := statement_format1 _ _ _ _ rfl rfl (by decide) (by decide)
theorem scm (b : BitVec 3) (m : Addr) : Statement (.scm b m) := statement_format1 _ _ _ _ rfl rfl (by decide) (by decide)
theorem ssu (b : BitVec 3) (m : Addr) : Statement (.ssu b m) := statement_format1 _ _ _ _ rfl rfl (by decide) (by decide)
theorem ldl (b : BitVec 3) (m : Addr) : Statement (.ldl b m) := statement_format1 _ _ _ _ rfl rfl (by decide) (by decide)
theorem adl (b : BitVec 3) (m : Addr) : Statement (.adl b m) := statement_format1 _ _ _ _ rfl rfl (by decide) (by decide)
theorem sbl (b : BitVec 3) (m : Addr) : Statement (.sbl b m) := statement_format1 _ _ _ _ rfl rfl (by decide) (by decide)
theorem stl (b : BitVec 3) (m : Addr) : Statement (.stl b m) := statement_format1 _ _ _ _ rfl rfl (by decide) (by decide)
theorem eni (b : BitVec 3) (y : Addr) : Statement (.eni b y) := statement_format1 _ _ _ _ rfl rfl (by decide) (by decide)
theorem ini (b : BitVec 3) (y : Addr) : Statement (.ini b y) := statement_format1 _ _ _ _ rfl rfl (by decide) (by decide)
theorem liu (b : BitVec 3) (m : Addr) : Statement (.liu b m) := statement_format1 _ _ _ _ rfl rfl (by decide) (by decide)
theorem lil (b : BitVec 3) (m : Addr) : Statement (.lil b m) := statement_format1 _ _ _ _ rfl rfl (by decide) (by decide)
theorem isk (b : BitVec 3) (y : Addr) : Statement (.isk b y) := statement_format1 _ _ _ _ rfl rfl (by decide) (by decide)
theorem ijp (b : BitVec 3) (m : Addr) : Statement (.ijp b m) := statement_format1 _ _ _ _ rfl rfl (by decide) (by decide)
theorem siu (b : BitVec 3) (m : Addr) : Statement (.siu b m) := statement_format1 _ _ _ _ rfl rfl (by decide) (by decide)
theorem sil (b : BitVec 3) (m : Addr) : Statement (.sil b m) := statement_format1 _ _ _ _ rfl rfl (by decide) (by decide)
theorem sau (b : BitVec 3) (m : Addr) : Statement (.sau b m) := statement_format1 _ _ _ _ rfl rfl (by decide) (by decide)
theorem sal (b : BitVec 3) (m : Addr) : Statement (.sal b m) := statement_format1 _ _ _ _ rfl rfl (by decide) (by decide)
theorem eqs (b : BitVec 3) (m : Addr) : Statement (.eqs b m) := statement_format1 _ _ _ _ rfl rfl (by decide) (by decide)
theorem ths (b : BitVec 3) (m : Addr) : Statement (.ths b m) := statement_format1 _ _ _ _ rfl rfl (by decide) (by decide)
theorem meq (b : BitVec 3) (m : Addr) : Statement (.meq b m) := statement_format1 _ _ _ _ rfl rfl (by decide) (by decide)
theorem mth (b : BitVec 3) (m : Addr) : Statement (.mth b m) := statement_format1 _ _ _ _ rfl rfl (by decide) (by decide)
theorem rad (b : BitVec 3) (m : Addr) : Statement (.rad b m) := statement_format1 _ _ _ _ rfl rfl (by decide) (by decide)
theorem rsb (b : BitVec 3) (m : Addr) : Statement (.rsb b m) := statement_format1 _ _ _ _ rfl rfl (by decide) (by decide)
theorem rao (b : BitVec 3) (m : Addr) : Statement (.rao b m) := statement_format1 _ _ _ _ rfl rfl (by decide) (by decide)
theorem rso (b : BitVec 3) (m : Addr) : Statement (.rso b m) := statement_format1 _ _ _ _ rfl rfl (by decide) (by decide)
theorem ajp (j : BitVec 2) (m : Addr) : Statement (.ajp j m) := statement_format1 _ _ _ _ rfl rfl (by decide) (by decide)
theorem arj (j : BitVec 2) (m : Addr) : Statement (.arj j m) := statement_format1 _ _ _ _ rfl rfl (by decide) (by decide)
theorem qjp (j : BitVec 2) (m : Addr) : Statement (.qjp j m) := statement_format1 _ _ _ _ rfl rfl (by decide) (by decide)
theorem qrj (j : BitVec 2) (m : Addr) : Statement (.qrj j m) := statement_format1 _ _ _ _ rfl rfl (by decide) (by decide)
theorem slj (m : Addr) : Statement (.slj m) := statement_format1 _ _ _ _ rfl rfl (by decide) (by decide)
theorem sj1 (m : Addr) : Statement (.sj1 m) := statement_format1 _ _ _ _ rfl rfl (by decide) (by decide)
theorem sj2 (m : Addr) : Statement (.sj2 m) := statement_format1 _ _ _ _ rfl rfl (by decide) (by decide)
theorem sj3 (m : Addr) : Statement (.sj3 m) := statement_format1 _ _ _ _ rfl rfl (by decide) (by decide)
theorem rtj (m : Addr) : Statement (.rtj m) := statement_format1 _ _ _ _ rfl rfl (by decide) (by decide)
theorem rj1 (m : Addr) : Statement (.rj1 m) := statement_format1 _ _ _ _ rfl rfl (by decide) (by decide)
theorem rj2 (m : Addr) : Statement (.rj2 m) := statement_format1 _ _ _ _ rfl rfl (by decide) (by decide)
theorem rj3 (m : Addr) : Statement (.rj3 m) := statement_format1 _ _ _ _ rfl rfl (by decide) (by decide)
theorem sls (m : Addr) : Statement (.sls m) := statement_format1 _ _ _ _ rfl rfl (by decide) (by decide)
theorem ss1 (m : Addr) : Statement (.ss1 m) := statement_format1 _ _ _ _ rfl rfl (by decide) (by decide)
theorem ss2 (m : Addr) : Statement (.ss2 m) := statement_format1 _ _ _ _ rfl rfl (by decide) (by decide)
theorem ss3 (m : Addr) : Statement (.ss3 m) := statement_format1 _ _ _ _ rfl rfl (by decide) (by decide)
theorem srj (m : Addr) : Statement (.srj m) := statement_format1 _ _ _ _ rfl rfl (by decide) (by decide)
theorem sr1 (m : Addr) : Statement (.sr1 m) := statement_format1 _ _ _ _ rfl rfl (by decide) (by decide)
theorem sr2 (m : Addr) : Statement (.sr2 m) := statement_format1 _ _ _ _ rfl rfl (by decide) (by decide)
theorem sr3 (m : Addr) : Statement (.sr3 m) := statement_format1 _ _ _ _ rfl rfl (by decide) (by decide)
theorem ill26 (rest : BitVec 18) : Statement (.ill26 rest) := statement_rest _ _ _ rfl rfl (by decide) (by decide)
theorem ill27 (rest : BitVec 18) : Statement (.ill27 rest) := statement_rest _ _ _ rfl rfl (by decide) (by decide)
theorem inf (y : Addr) : Statement (.inf y) := statement_format1 _ _ _ _ rfl rfl (by decide) (by decide)
theorem aug (y : Addr) : Statement (.aug y) := statement_format1 _ _ _ _ rfl rfl (by decide) (by decide)
theorem cis (y : Addr) : Statement (.cis y) := statement_format1 _ _ _ _ rfl rfl (by decide) (by decide)
theorem sen (y : Addr) : Statement (.sen y) := statement_format1 _ _ _ _ rfl rfl (by decide) (by decide)
theorem cpr (y : Addr) : Statement (.cpr y) := statement_format1 _ _ _ _ rfl rfl (by decide) (by decide)
theorem eub (y : Addr) : Statement (.eub y) := statement_format1 _ _ _ _ rfl rfl (by decide) (by decide)
theorem elb (y : Addr) : Statement (.elb y) := statement_format1 _ _ _ _ rfl rfl (by decide) (by decide)
theorem undef62 (rest : BitVec 18) : Statement (.undef62 rest) := statement_rest _ _ _ rfl rfl (by decide) (by decide)
theorem ill777 (rest : BitVec 15) : Statement (.ill777 rest) := statement_format1 _ _ _ _ rfl rfl (by decide) (by decide)
theorem conn (n : Addr) (x : BitVec 3) (c : Byte12) : Statement (.conn n x c) := statement_format3 _ _ _ _ _ rfl rfl
theorem extf (n : Addr) (x : BitVec 3) (c : Byte12) : Statement (.extf n x c) := statement_format3 _ _ _ _ _ rfl rfl
theorem begr (n : Addr) (x : BitVec 3) (m : Addr) : Statement (.begr n x m) := statement_format3 _ _ _ _ _ rfl rfl
theorem begw (n : Addr) (x : BitVec 3) (m : Addr) : Statement (.begw n x m) := statement_format3 _ _ _ _ _ rfl rfl
theorem copy (n : Addr) (x : BitVec 3) (m : Addr) : Statement (.copy n x m) := statement_format3 _ _ _ _ _ rfl rfl
theorem clch (n : Addr) (x : BitVec 3) (m : Addr) : Statement (.clch n x m) := statement_format3 _ _ _ _ _ rfl rfl
theorem ccwd (n : Addr) (x : BitVec 3) (m : Addr) : Statement (.ccwd n x m) := statement_format3 _ _ _ _ _ rfl rfl
theorem ill747 (rest : BitVec 39) : Statement (.ill747 rest) :=
  ⟨rfl, .inr ((extract_above 0o747#9 rest 3 6).trans (by decide))⟩
theorem ldc (b v : BitVec 3) (m : Addr) : Statement (.ldc b v m) := statement_format4 _ _ _ _ _ rfl rfl
theorem stc (b v : BitVec 3) (m : Addr) : Statement (.stc b v m) := statement_format4 _ _ _ _ _ rfl rfl

end Sys2Proof.Laws.EncodeWidth
end

