-- ==== Sys2Proof/Laws/Step.lean ====
section
/-! SUPPORT. The step taken apart: whose turn it is, the reading of a program step, and the end of an instruction. -/

namespace Sys2Proof.Machine

/-- With no other agent waiting it is the computer's turn (rule R74). -/
theorem step_computer (s : State) (h : s.inputs = []) : step s = act s := by simp [step, turn, h]

/-- The action of another agent that is due is taken. -/
theorem step_agent (s : State) (e : Event) (rest : List (Nat × Event)) (h : s.inputs = (0, e) :: rest) :
    step s = deliver e { s with inputs := rest } := by simp [step, turn, h]

/-- The action of another agent that is not due comes one step nearer. -/
theorem step_waiting (s : State) (n : Nat) (e : Event) (rest : List (Nat × Event)) (h : s.inputs = (n + 1, e) :: rest) :
    step s = act { s with inputs := (n, e) :: rest } := by simp [step, turn, h]

theorem act_running (s : State) (h : s.run = .running) : act s = runInstruction s := by simp [act, h]

/-- After an auto-load the computer starts (rule R488). -/
theorem act_loaded (s : State) (h : s.run = .loaded) : act s = autoLoadEntry s := by simp [act, h]

theorem act_idle (s : State) (h : s.run ≠ .running) (hl : s.run ≠ .loaded) : act s = .next s := by
  cases hr : s.run <;> simp_all [act]

/-- Reading a program step: the word at P is in U, and the augment designators are gone (rule R40, rule R461). -/
theorem fetch_good (s : State) (hp : s.present s.p = true) (ha : s.allowed s.p = true)
    (hg : badParity (s.cell s.p) = false) : fetch s = .next { s with aug := none, u := s.word s.p } := by
  have h : ({ s with aug := none } : State).allowed s.p = true := ha
  simp only [fetch, h, if_true]
  exact loadU_good { s with aug := none } hp hg

/-- Everything reading a program step can do. -/
theorem fetch_eq_next (s t : State) (h : fetch s = .next t) :
    s.present s.p = true ∧ ∃ ir, (ir = s.irLatch ∨ ir = setBit s.irLatch 42) ∧
      ((badParity (s.cell s.p) = false ∧ t = { s with aug := none, u := s.word s.p, irLatch := ir }) ∨
        (badParity (s.cell s.p) = true ∧
          t = { s with
            aug := none
            u := s.word s.p
            irLatch := setBit ir 46
            run := .stopped .instructionParity })) := by
  unfold fetch at h
  dsimp only at h
  split at h
  · rw [loadU_eq_next] at h
    obtain ⟨hp, ⟨hg, rfl⟩ | ⟨hg, rfl⟩⟩ := h
    · exact ⟨hp, _, .inl rfl, .inl ⟨hg, rfl⟩⟩
    · exact ⟨hp, _, .inl rfl, .inr ⟨hg, rfl⟩⟩
  · rw [loadU_eq_next] at h
    obtain ⟨hp, ⟨hg, rfl⟩ | ⟨hg, rfl⟩⟩ := h
    · exact ⟨hp, _, .inr rfl, .inl ⟨hg, rfl⟩⟩
    · exact ⟨hp, _, .inr rfl, .inr ⟨hg, rfl⟩⟩

/-- Everything the return trigger can do: begin the return from Category I, from Category II, or nothing
(rule R446, rule R452). -/
theorem returnTrigger_cases (s : State) :
    (s.p = 0o7 ∧ s.catI.mode = true ∧
      returnTrigger s =
        { s with
          catI := { s.catI with lockout := false, mode := false }
          ret := some { half := exitHalf s.catI.exit, unchecked := !s.params.boundsInInterrupt } }) ∨
    (s.catII.mode = true ∧
      returnTrigger s =
        { s with
          catII := { s.catII with mode := false }
          ret := some { half := exitHalf s.catII.exit, unchecked := false } }) ∨
    returnTrigger s = s := by
  unfold returnTrigger
  split
  · exact .inl ⟨by tauto, by tauto, rfl⟩
  · split
    · exact .inr (.inl ⟨by tauto, rfl⟩)
    · exact .inr (.inr rfl)

/-- Everything the sampling can do (rule R440). -/
theorem sample_eq_next (s t : State) (h : sample s = .next t) :
    (s.interruptPending = false ∧ t = s) ∨ (s.interruptPending = true ∧ enterCategoryI s = .next t) := by
  cases hp : s.interruptPending
  · rw [sample_quiet s hp] at h
    cases h
    exact .inl ⟨rfl, rfl⟩
  · rw [sample_pending s hp] at h
    exact .inr ⟨rfl, h⟩

end Sys2Proof.Machine
end

