-- ==== Sys2Proof/Tests/Slice0.lean ====
section
/-! SUPPORT. Tests: ill-formed terms refused, words written out from the spec's encodings, small steps whose results are
those of the vectors and programs of file 95 of the spec, and states that meet the hypotheses of the statements. -/

namespace Sys2Proof.Tests

open Sys2Proof.Machine

/-! ## Ill-formed terms (rule R95, rule R93, rule R107, rule R260, rule R265, rule R277) -/

theorem test_wf_ati_index_zero : (Instr.ati 0).wellFormed = false := by decide
theorem test_wf_ati_index_seven : (Instr.ati 7).wellFormed = false := by decide
theorem test_wf_ati_index : (Instr.ati 6).wellFormed = true := by decide
theorem test_wf_inf_unlisted : (Instr.inf 0o777).wellFormed = false := by decide
theorem test_wf_inf_listed : (Instr.inf 0o602).wellFormed = true := by decide
theorem test_wf_sen_unlisted : (Instr.sen 0o112).wellFormed = false := by decide
theorem test_wf_conn_channel : (Instr.conn 0 4 0).wellFormed = false := by decide
theorem test_wf_extf_channel : (Instr.extf 0 5 0).wellFormed = false := by decide
theorem test_wf_begr_channel : (Instr.begr 0 6 0).wellFormed = false := by decide
theorem test_wf_begw_channel : (Instr.begw 0 7 0).wellFormed = false := by decide
theorem test_wf_copy_channel : (Instr.copy 0 4 0).wellFormed = false := by decide
theorem test_wf_clch_channel : (Instr.clch 0 4 0).wellFormed = false := by decide
theorem test_wf_ccwd_channel : (Instr.ccwd 0 4 0).wellFormed = false := by decide
theorem test_wf_conn_channel_three : (Instr.conn 0 3 0).wellFormed = true := by decide
theorem test_wf_ldc_index_zero : (Instr.ldc 1 0 0).wellFormed = false := by decide
theorem test_wf_stc_index_seven : (Instr.stc 1 7 0).wellFormed = false := by decide
theorem test_wf_undef62 : (Instr.undef62 0).wellFormed = false := by decide

/-! ## Decoding (rule R91 to rule R97, rule R105 to rule R107): the words are written f, b or j or digit, address -/

/-- The words decode to the instructions beside them. -/
def decodesTo (l : List (HalfWord × Instr)) : Bool := l.all fun x => decide (decodeHalf x.1 = .ok x.2)
def decodesLong (l : List (Word × Instr)) : Bool := l.all fun x => decide (decodeUpper x.1 = .ok x.2)

theorem test_decode_enter_transmit : decodesTo
    [(0o00_7_00554, .iaq), (0o00_7_40546, .ati 6), (0o04_3_00003, .enq 3 3), (0o10_1_77777, .ena 1 0o77777),
     (0o12_7_00100, .lda 7 0o100), (0o13_0_00200, .lac 0 0o200), (0o16_2_54321, .ldq 2 0o54321),
     (0o17_5_40001, .lqc 5 0o40001), (0o20_2_00200, .sta 2 0o200), (0o21_4_12345, .stq 4 0o12345),
     (0o50_4_77777, .eni 4 0o77777), (0o52_1_00200, .liu 1 0o200), (0o53_2_00200, .lil 2 0o200),
     (0o56_1_00200, .siu 1 0o200), (0o57_6_00200, .sil 6 0o200), (0o60_3_00200, .sau 3 0o200),
     (0o61_0_00201, .sal 0 0o201)] = true := by decide

theorem test_decode_arithmetic : decodesTo
    [(0o11_0_77776, .ina 0 0o77776), (0o14_3_00200, .add 3 0o200), (0o15_1_00203, .sub 1 0o203),
     (0o24_0_00302, .mui 0 0o302), (0o25_5_00200, .dvi 5 0o200), (0o30_1_02000, .fad 1 0o2000),
     (0o31_2_00000, .fsb 2 0), (0o32_4_70007, .fmu 4 0o70007), (0o33_6_00001, .fdv 6 1), (0o51_1_77775, .ini 1 0o77775),
     (0o54_1_00005, .isk 1 5)] = true := by decide

theorem test_decode_logical_shift : decodesTo
    [(0o40_1_00200, .sst 1 0o200), (0o41_2_00200, .scl 2 0o200), (0o42_3_00200, .scm 3 0o200),
     (0o43_4_00200, .ssu 4 0o200), (0o44_5_00200, .ldl 5 0o200), (0o45_6_00200, .adl 6 0o200),
     (0o46_7_00200, .sbl 7 0o200), (0o47_0_00200, .stl 0 0o200), (0o01_1_00057, .ars 1 0o57), (0o02_2_00003, .qrs 2 3),
     (0o03_3_00137, .lrs 3 0o137), (0o05_4_00177, .als 4 0o177), (0o06_5_00030, .qls 5 0o30),
     (0o07_6_00140, .lls 6 0o140), (0o34_1_01203, .sca 1 0o1203), (0o35_2_00140, .scq 2 0o140)] = true := by decide

theorem test_decode_replace_search : decodesTo
    [(0o70_1_00200, .rad 1 0o200), (0o71_2_00200, .rsb 2 0o200), (0o72_3_00200, .rao 3 0o200),
     (0o73_4_00200, .rso 4 0o200), (0o36_5_00200, .ssk 5 0o200), (0o37_6_00200, .ssh 6 0o200),
     (0o64_1_01000, .eqs 1 0o1000), (0o65_2_01000, .ths 2 0o1000), (0o66_3_01000, .meq 3 0o1000),
     (0o67_4_01000, .mth 4 0o1000)] = true := by decide

theorem test_decode_jumps : decodesTo
    [(0o22_3_00500, .ajp 3 0o500), (0o22_7_00500, .arj 3 0o500), (0o23_1_00500, .qjp 1 0o500),
     (0o23_5_00500, .qrj 1 0o500), (0o55_1_00500, .ijp 1 0o500), (0o75_0_00500, .slj 0o500), (0o75_1_00500, .sj1 0o500),
     (0o75_2_00500, .sj2 0o500), (0o75_3_00500, .sj3 0o500), (0o75_4_00500, .rtj 0o500), (0o75_5_00500, .rj1 0o500),
     (0o75_6_00500, .rj2 0o500), (0o75_7_00500, .rj3 0o500), (0o76_0_00500, .sls 0o500), (0o76_1_00500, .ss1 0o500),
     (0o76_2_00500, .ss2 0o500), (0o76_3_00500, .ss3 0o500), (0o76_4_00500, .srj 0o500), (0o76_5_00500, .sr1 0o500),
     (0o76_6_00500, .sr2 0o500), (0o76_7_00500, .sr3 0o500)] = true := by decide

theorem test_decode_internal : decodesTo
    [(0o77_0_00541, .inf 0o541), (0o77_1_70007, .aug 0o70007), (0o77_2_00000, .cis 0), (0o77_3_00110, .sen 0o110),
     (0o77_4_00000, .cpr 0), (0o77_5_02000, .eub 0o2000), (0o77_6_01000, .elb 0o1000), (0o26_0_00000, .ill26 0),
     (0o27_5_12345, .ill27 0o512345), (0o77_7_00001, .ill777 1), (0o62_1_00002, .undef62 0o100002)] = true := by decide

theorem test_decode_long : decodesLong
    [(0o7400202000004000, .conn 0o2020 0 0o4000), (0o7410202000000002, .extf 0o2020 0 2),
     (0o7420202001003001, .begr 0o2020 1 0o3001), (0o7430202000003000, .begw 0o2020 0 0o3000),
     (0o7440000001000000, .copy 0 1 0), (0o7450000000000000, .clch 0 0 0), (0o7460000002000000, .ccwd 0 2 0),
     (0o7470000000000000, .ill747 0), (0o6302000650003000, .ldc 0 2 0o3000),
     (0o6312000650503000, .stc 1 2 0o3000)] = true := by decide

/-- Codes no rule defines are refused by name, and a long code does not begin in a lower half (rule R97, rule R107). -/
theorem test_decode_undefined :
    decodeHalf 0 = .error (.undefinedZero 0) ∧
    decodeHalf 0o00_7_00555 = .error (.undefinedZero 0o00_7_00555) ∧
    decodeUpper 0o6302000750003000 = .error (.undefinedCharacter 0o6302000750003000) ∧
    decodeUpper 0o7400202000104000 = .error (.unusedFieldSet 0o7400202000104000) ∧
    decodeLower 0o7400202074002020 = .error (.longInLowerHalf 0o74002020) := by decide

/-- The table numbers the bits of an instruction from its own lowest: ADD 3 00200, and CONN. -/
theorem test_decode_table :
    decodeTableWord 24 0o14_3_00200 = some (.add 3 0o200) ∧
    decodeTableWord 48 0o7400202000004000 = some (.conn 0o2020 0 0o4000) := by decide

/-! ## One step of the machine -/

/-- The outcome is a next state of which f says yes. -/
def after (r : Host.Outcome State Fault Refusal) (f : State → Bool) : Bool :=
  match r with
  | .next t => f t
  | _ => false

/-- A started computer at 01000 with words stored. -/
def stored (l : List (Addr × Word)) : State :=
  { l.foldl (fun s x => s.setCell x.1 (cellOf x.2)) State.reset with run := .running, p := 0o1000 }

/-- The 24-bit instruction w in the upper half of 01000, or in U as the lower half of 01000; the 48-bit one at 01000. -/
def upper (w : HalfWord) (l : List (Addr × Word) := []) : State := stored ((0o1000, w ++ 0#24) :: l)
def lower (w : HalfWord) (l : List (Addr × Word) := []) : State := { stored l with u := 0#24 ++ w, h := .lower }
def long (w : Word) (l : List (Addr × Word) := []) : State := stored ((0o1000, w) :: l)

/-- Where the run goes on. -/
def place (s : State) : Addr × Half := (s.p, s.h)

/-! ### Addresses (file 95, 2.1) -/

theorem test_index_negative : after (step { upper 0o12_3_00003 [(2, 9)] with b := { b3 := 0o77776 } })
    (fun t => t.a == 9 && place t == (0o1000, .lower)) = true := by decide
theorem test_index_all_ones : after (step { upper 0o12_3_00003 [(0, 9)] with b := { b3 := 0o77774 } })
    (fun t => t.a == 9) = true := by decide
theorem test_indirect_two_levels : after (step (upper 0o12_7_00100 [(0o100, 0o700101), (0o101, 0o300), (0o300, 9)]))
    (fun t => t.a == 9) = true := by decide
theorem test_indirect_no_modification : after (step (upper 0o50_7_00100 [(0o100, 0o200055)]))
    (fun t => t.b.b2 == 0o55) = true := by decide

/-! ### Transmission (file 95, 2.2) -/

theorem test_iaq : after (step { upper 0o00_7_00554 with a := 5, q := 0o7777777777777777 })
    (fun t => t.a == 0o7777777777777777 && t.q == 5) = true := by decide
theorem test_ati : after (step { upper 0o00_7_40543 with a := 0o1234567012345670 })
    (fun t => t.b.b3 == 0o45670 && t.a == 0o1234567012345670) = true := by decide
theorem test_lda : after (step (upper 0o12_0_00200 [(0o200, 0o7777777777777777)]))
    (fun t => t.a == 0o7777777777777777) = true := by decide
theorem test_lac : after (step (upper 0o13_0_00200 [(0o200, 0o1234567012345670)]))
    (fun t => t.a == 0o6543210765432107) = true := by decide
theorem test_ldq : after (step (upper 0o16_0_00200 [(0o200, 0o42)])) (fun t => t.q == 0o42 && t.a == 0) = true := by decide
theorem test_lqc : after (step (upper 0o17_0_00200 [(0o200, 0o42)])) (fun t => t.q == 0o7777777777777735) = true := by decide
theorem test_sta : after (step { upper 0o20_2_00200 with a := 0o77, b := { b2 := 0o10 } })
    (fun t => t.word 0o210 == 0o77) = true := by decide
theorem test_stq : after (step { upper 0o21_0_00200 with q := 0o7777777777777777 })
    (fun t => t.word 0o200 == 0o7777777777777777) = true := by decide
theorem test_liu : after (step (upper 0o52_1_00200 [(0o200, 0o1234567012345670)]))
    (fun t => t.b.b1 == 0o45670) = true := by decide
theorem test_lil : after (step (upper 0o53_2_00200 [(0o200, 0o1234567012345671)]))
    (fun t => t.b.b2 == 0o45671) = true := by decide
theorem test_siu : after (step { upper 0o56_1_00200 [(0o200, 0o1234567012345670)] with b := { b1 := 0o54321 } })
    (fun t => t.word 0o200 == 0o1235432112345670 && !badParity (t.cell 0o200)) = true := by decide
theorem test_siu_zero : after (step (upper 0o56_0_00200 [(0o200, 0o1234567012345670)]))
    (fun t => t.word 0o200 == 0o1230000012345670) = true := by decide
theorem test_sil : after (step { upper 0o57_1_00200 [(0o200, 0o1234567012345670)] with b := { b1 := 0o54321 } })
    (fun t => t.word 0o200 == 0o1234567012354321 && !badParity (t.cell 0o200)) = true := by decide
theorem test_sau : after (step { upper 0o60_0_00200 [(0o200, 0o1234567012345670)] with a := 0o7777777777754321 })
    (fun t => t.word 0o200 == 0o1235432112345670) = true := by decide
theorem test_sal : after (step { upper 0o61_0_00200 [(0o200, 0o1234567012345670)] with a := 0o7777777777754321 })
    (fun t => t.word 0o200 == 0o1234567012354321) = true := by decide
theorem test_ena_not_negative_zero : after (step { upper 0o10_1_77777 with a := 5 }) (fun t => t.a == 0) = true := by decide
theorem test_ena_sign : after (step (upper 0o10_0_40000)) (fun t => t.a == 0o7777777777740000) = true := by decide
theorem test_enq : after (step { upper 0o04_3_00003 with b := { b3 := 0o77776 } }) (fun t => t.q == 2) = true := by decide
theorem test_eni : after (step (upper 0o50_4_77777)) (fun t => t.b.b4 == 0o77777) = true := by decide
theorem test_eni_zero : after (step (upper 0o50_0_12345)) (fun t => t.b == {}) = true := by decide

/-! ### Arithmetic (file 95, 2.3) -/

theorem test_add_overflow : after (step { upper 0o14_0_00200 [(0o200, 1)] with a := 0o3777777777777777 })
    (fun t => t.a == 0o4000000000000000 && t.ir == 0o10) = true := by decide
theorem test_add_zero : after (step { upper 0o14_0_00200 [(0o200, 0o7777777777777772)] with a := 5 })
    (fun t => t.a == 0 && t.ir == 0) = true := by decide
theorem test_sub_negative_zero : after (step { upper 0o15_0_00200 with a := 0o7777777777777777 })
    (fun t => t.a == 0o7777777777777777 && t.ir == 0) = true := by decide
theorem test_sub_overflow : after (step { upper 0o15_0_00200 [(0o200, 1)] with a := 0o4000000000000000 })
    (fun t => t.a == 0o3777777777777777 && t.ir == 0o10) = true := by decide
theorem test_mui_negative : after (step { upper 0o24_0_00200 [(0o200, 0o7777777777777773)] with a := 3 })
    (fun t => t.q == 0o7777777777777777 && t.a == 0o7777777777777763) = true := by decide
theorem test_mui_large : after
    (step { upper 0o24_0_00200 [(0o200, 0o3777777777777777)] with a := 0o3777777777777777 })
    (fun t => t.q == 0o1777777777777777 && t.a == 1) = true := by decide
theorem test_dvi_negative : after
    (step { upper 0o25_0_00200 [(0o200, 5)] with q := 0o7777777777777777, a := 0o7777777777777756 })
    (fun t => t.a == 0o7777777777777774 && t.q == 0o7777777777777775 && t.ir == 0) = true := by decide
theorem test_dvi_fault : after (step { upper 0o25_0_00200 [(0o200, 2)] with q := 1 }) (fun t => t.ir == 4) = true := by
  decide
theorem test_ina_negative : after (step { upper 0o11_0_77776 with a := 5 }) (fun t => t.a == 4) = true := by decide
theorem test_ina_no_fault : after (step { upper 0o11_0_00001 with a := 0o3777777777777777 })
    (fun t => t.a == 0o4000000000000000 && t.ir == 0) = true := by decide
theorem test_ini_all_ones : after (step { upper 0o51_1_77774 with b := { b1 := 3 } }) (fun t => t.b.b1 == 0) = true := by
  decide
theorem test_ini_sum : after (step { upper 0o51_1_77775 with b := { b1 := 5 } }) (fun t => t.b.b1 == 3) = true := by decide
theorem test_isk_skip : after (step { upper 0o54_1_00005 with b := { b1 := 5 } })
    (fun t => t.b.b1 == 0 && place t == (0o1001, .upper)) = true := by decide
theorem test_isk_count : after (step { upper 0o54_1_00005 with b := { b1 := 0o77776 } })
    (fun t => t.b.b1 == 0 && place t == (0o1000, .lower)) = true := by decide

/-! ### The floating point codes without the option (file 95, P5) -/

theorem test_fad_trap : after (step (upper 0o30_0_02000 [(0o30, 0o7500000075000600)]))
    (fun t => t.word 0o30 == 0o7500100075000600 && place t == (0o30, .lower) && t.catII == ⟨true, true, 0⟩) = true := by
  decide
theorem test_fsb_trap : after (step (upper 0o31_0_02000 [(0o31, 0o7500000075000600)]))
    (fun t => t.word 0o31 == 0o7500100075000600 && place t == (0o31, .lower) && t.catII == ⟨true, true, 1⟩) = true := by
  decide
theorem test_fmu_trap : after (step (lower 0o32_0_02000 [(0o32, 0o7500000075000600)]))
    (fun t => t.word 0o32 == 0o7500100175000600 && t.catII == ⟨true, false, 2⟩) = true := by decide
theorem test_fdv_trap : after (step (lower 0o33_0_02000 [(0o33, 0o7500000075000600)]))
    (fun t => t.word 0o33 == 0o7500100175000600 && t.catII == ⟨true, false, 3⟩) = true := by decide

/-! ### Logical instructions and shifts (file 95, 2.4 to 2.6) -/

theorem test_sst : after (step { upper 0o40_0_00200 [(0o200, 0o12)] with a := 0o14 }) (fun t => t.a == 0o16) = true := by
  decide
theorem test_scm : after (step { upper 0o42_0_00200 [(0o200, 0o12)] with a := 0o14 }) (fun t => t.a == 6) = true := by
  decide
theorem test_scl : after (step { upper 0o41_0_00200 [(0o200, 0o12)] with a := 0o14 }) (fun t => t.a == 4) = true := by
  decide

/-- The state of the masked vectors. -/
def masked (w : HalfWord) : State :=
  { upper w [(0o200, 0o2222222222222222)] with a := 0o1111111111111111, q := 0o7700 }

theorem test_ssu : after (step (masked 0o43_0_00200)) (fun t => t.a == 0o1111111111112211) = true := by decide
theorem test_ldl : after (step (masked 0o44_0_00200)) (fun t => t.a == 0o2200) = true := by decide
theorem test_adl : after (step (masked 0o45_0_00200)) (fun t => t.a == 0o1111111111113311) = true := by decide
theorem test_sbl : after (step (masked 0o46_0_00200)) (fun t => t.a == 0o1111111111106711) = true := by decide
theorem test_stl : after (step (masked 0o47_0_00200))
    (fun t => t.word 0o200 == 0o1100 && t.a == 0o1111111111111111) = true := by decide
theorem test_ars : after (step { upper 0o01_0_00057 with a := 0o4000000000000000 })
    (fun t => t.a == 0o7777777777777777) = true := by decide
theorem test_ars_negative : after (step { upper 0o01_0_00003 with a := 0o7777777777777677 })
    (fun t => t.a == 0o7777777777777767) = true := by decide
theorem test_qrs : after (step { upper 0o02_0_00003 with q := 0o100 }) (fun t => t.q == 0o10) = true := by decide
theorem test_lrs : after (step { upper 0o03_0_00001 with a := 0o7777777777777776, q := 0o7777777777777777 })
    (fun t => t.a == 0o7777777777777777 && t.q == 0o3777777777777777) = true := by decide
theorem test_als : after (step { upper 0o05_0_00003 with a := 0o1234567012345670 })
    (fun t => t.a == 0o2345670123456701 && t.ir == 0) = true := by decide
theorem test_als_shift_fault : after (step { upper 0o05_0_00201 with a := 0o4000000000000001 })
    (fun t => t.a == 3 && t.ir == 2) = true := by decide
theorem test_qls : after (step { upper 0o06_0_00030 with q := 0o1234567012345670 })
    (fun t => t.q == 0o1234567012345670) = true := by decide
theorem test_lls : after (step { upper 0o07_0_00014 with a := 0o1234567012345670, q := 0o7654321076543210 })
    (fun t => t.a == 0o5670123456707654 && t.q == 0o3210765432101234) = true := by decide
theorem test_sca : after (step { upper 0o34_1_00060 with a := 0o7777777777777776 })
    (fun t => t.a == 0o5777777777777777 && t.b.b1 == 2) = true := by decide
theorem test_sca_count_field : after (step { upper 0o34_1_01203 with a := 1 })
    (fun t => t.a == 0o10 && t.b.b1 == 0o1200) = true := by decide
theorem test_scq : after (step { upper 0o35_1_00140 with q := 0o4000000000000000 })
    (fun t => t.a == 0o2000000000000000 && t.q == 0 && t.b.b1 == 0o61) = true := by decide
theorem test_scq_exhausted : after (step { upper 0o35_1_00010 with a := 1 })
    (fun t => t.a == 0o400 && t.b.b1 == 0) = true := by decide

/-! ### Replace, storage test, search (file 95, 2.7, 2.8) -/

theorem test_rad : after (step { upper 0o70_0_00200 [(0o200, 0o3777777777777777)] with a := 1 })
    (fun t => t.a == 0o4000000000000000 && t.word 0o200 == 0o4000000000000000 && t.ir == 0o10) = true := by decide
theorem test_rsb : after (step { upper 0o71_0_00200 [(0o200, 3)] with a := 5 })
    (fun t => t.a == 0o7777777777777775 && t.word 0o200 == 0o7777777777777775 && t.ir == 0) = true := by decide
theorem test_rao : after (step (upper 0o72_0_00200 [(0o200, 0o7777777777777777)]))
    (fun t => t.a == 1 && t.word 0o200 == 1) = true := by decide
theorem test_rso : after (step (upper 0o73_0_00200))
    (fun t => t.a == 0o7777777777777776 && t.word 0o200 == 0o7777777777777776) = true := by decide
theorem test_ssk : after (step (upper 0o36_0_00200 [(0o200, 0o7777777777777777)]))
    (fun t => place t == (0o1001, .upper)) = true := by decide
theorem test_ssh : after (step (upper 0o37_0_00200 [(0o200, 0o3000000000000000)]))
    (fun t => t.word 0o200 == 0o6000000000000000 && place t == (0o1000, .lower)) = true := by decide
theorem test_ssh_negative : after (step (upper 0o37_0_00200 [(0o200, 0o4000000000000001)]))
    (fun t => t.word 0o200 == 3 && place t == (0o1001, .upper)) = true := by decide

/-- The lists of the search vectors, moved to 02000. -/
def list1 : List (Addr × Word) := [(0o2000, 1), (0o2001, 7), (0o2002, 3), (0o2003, 7)]
def list2 : List (Addr × Word) := [(0o2000, 1), (0o2001, 7), (0o2002, 3), (0o2003, 2)]
def list3 : List (Addr × Word) := [(0o2000, 0o1205), (0o2001, 0o3405), (0o2002, 0o5677)]

theorem test_eqs_hit : after (step { upper 0o64_1_02000 list1 with a := 3, b := { b1 := 4 } })
    (fun t => t.b.b1 == 2 && place t == (0o1001, .upper)) = true := by decide
theorem test_eqs_miss : after (step { upper 0o64_1_02000 list1 with a := 0o11, b := { b1 := 4 } })
    (fun t => t.b.b1 == 0 && place t == (0o1000, .lower)) = true := by decide
theorem test_ths_strict : after (step { upper 0o65_1_02000 list2 with a := 3, b := { b1 := 4 } })
    (fun t => t.b.b1 == 1 && place t == (0o1001, .upper)) = true := by decide
theorem test_ths_zero_above_negative_zero : after
    (step { upper 0o65_1_02000 [(0o2000, 0o7777777777777777)] with a := 0o7777777777777777, b := { b1 := 2 } })
    (fun t => t.b.b1 == 1 && place t == (0o1001, .upper)) = true := by decide
theorem test_meq : after (step { upper 0o66_1_02000 list3 with q := 0o77, a := 5, b := { b1 := 3 } })
    (fun t => t.b.b1 == 1 && place t == (0o1001, .upper)) = true := by decide
theorem test_mth : after (step { upper 0o67_1_02000 list3 with q := 0o77, a := 0o77, b := { b1 := 3 } })
    (fun t => t.b.b1 == 0 && place t == (0o1000, .lower)) = true := by decide

/-! ### Jumps and stops (file 95, 2.9) -/

/-- The entry word of the return jump vectors. -/
def entry : List (Addr × Word) := [(0o500, 0o7500000012000600)]

/-- A return jump was made from 01000 to 00500. -/
def returned (t : State) : Bool := t.word 0o500 == 0o7500100112000600 && place t == (0o500, .lower)

/-- A jump was made to 00500; the run goes on at the lower half; the computer stopped at 01000. -/
def jumped (t : State) : Bool := place t == (0o500, .upper)
def wentOn (t : State) : Bool := place t == (0o1000, .lower)
def halted (t : State) : Bool := decide (t.run ≠ .running) && t.p == 0o1000

theorem test_ajp_zero : after (step (upper 0o22_0_00500)) jumped = true := by decide
theorem test_ajp_negative : after (step { upper 0o22_3_00500 with a := 0o7777777777777777 }) jumped = true := by decide
theorem test_arj : after (step { upper 0o22_7_00500 entry with a := 0o4000000000000000 }) returned = true := by decide
theorem test_qjp : after (step { lower 0o23_1_00500 with q := 1 }) jumped = true := by decide
theorem test_qrj_not_taken : after (step { upper 0o23_5_00500 entry with q := 0o7777777777777777 }) wentOn = true := by
  decide
theorem test_qrj_taken : after (step { upper 0o23_5_00500 entry with q := 1 }) returned = true := by decide
theorem test_ijp : after (step { upper 0o55_1_00500 with b := { b1 := 0o77777 } })
    (fun t => jumped t && t.b.b1 == 0o77776) = true := by decide
theorem test_ijp_zero : after (step (upper 0o55_1_00500)) (fun t => wentOn t && t.b.b1 == 0) = true := by decide
theorem test_slj : after (step (upper 0o75_0_00500)) jumped = true := by decide
theorem test_sj1 : after (step { upper 0o75_1_00500 with console := { jump1 := true } }) jumped = true := by decide
theorem test_sj2_off : after (step { upper 0o75_2_00500 with console := { jump1 := true, jump3 := true } }) wentOn = true := by
  decide
theorem test_sj3 : after (step { upper 0o75_3_00500 with console := { jump3 := true } }) jumped = true := by decide
theorem test_rtj : after (step (lower 0o75_4_00500 entry)) returned = true := by decide
theorem test_rtj_wraps : after (step { lower 0o75_4_00500 [(0o500, 0o7501234512000600)] with p := 0o77777 })
    (fun t => t.word 0o500 == 0o7500000012000600) = true := by decide
theorem test_rj1 : after (step { upper 0o75_5_00500 entry with console := { jump1 := true } }) returned = true := by decide
theorem test_rj2_off : after (step { upper 0o75_6_00500 entry with console := { jump1 := true } }) wentOn = true := by
  decide
theorem test_rj3 : after (step { upper 0o75_7_00500 entry with console := { jump3 := true } }) returned = true := by decide
theorem test_sls : after (step (upper 0o76_0_00500)) halted = true := by decide
theorem test_sls_go : after (deliver .go { upper 0 with run := .stopped (.sls false 0o500 false) }) jumped = true := by decide
theorem test_ss1_no_maintenance : after (step { upper 0o76_1_00500 with console := { stop1 := true } }) jumped = true := by
  decide
theorem test_ss2 : after (step { upper 0o76_2_00500 with console := { stop2 := true, maint := true } }) halted = true := by
  decide
theorem test_ss3 : after (step { upper 0o76_3_00500 with console := { stop1 := true, maint := true } }) jumped = true := by
  decide
theorem test_srj : after (step (upper 0o76_4_00500 entry))
    (fun t => halted t && t.word 0o500 == 0o7500000012000600) = true := by decide
theorem test_srj_go : after (deliver .go { upper 0 entry with run := .stopped (.sls true 0o500 false) }) returned = true := by
  decide
theorem test_sr1 : after (step { upper 0o76_5_00500 entry with console := { stop1 := true, maint := true } }) halted = true := by
  decide
theorem test_sr2 : after (step { upper 0o76_6_00500 entry with console := { stop1 := true, maint := true } }) returned = true := by
  decide
theorem test_sr3 : after (step { upper 0o76_7_00500 entry with console := { stop3 := true } }) returned = true := by decide

/-! ### Characters, internal functions, bounds (file 95, 2.10 to 2.12) -/

theorem test_ldc : after (step { long 0o6302000650003000 [(0o3000, 0o0102030405060710)] with b := { b2 := 0o22 } })
    (fun t => t.a == 5 && place t == (0o1001, .upper)) = true := by decide
theorem test_stc : after
    (step { long 0o6302000650503000 [(0o3000, 0o0102030405060710)] with b := { b2 := 0o52 }, a := 0o1234 })
    (fun t => t.word 0o3000 == 0o3402030405060710 && t.a == 0o1234) = true := by decide
theorem test_inf_select : after (step { upper 0o77_0_00500 with im := 0o0100000000000010 })
    (fun t => t.im == 0o0500000000000010 && t.timeLatch) = true := by decide
theorem test_inf_clear : after (step { upper 0o77_0_00602 with im := 0o10, irLatch := 2, active := true })
    (fun t => t.im == 0 && t.ir == 0 && !t.active) = true := by decide
theorem test_aug_lower : after (step (lower 0o77_1_00000)) (fun t => place t == (0o1001, .upper) && t.aug == none) = true := by
  decide
theorem test_aug_upper : after (step { stored [(0o1000, 0o7713000412000200)] with b := { b3 := 5 } })
    (fun t => t.u == 0o7713000412000205 && t.aug == some 4 && wentOn t) = true := by decide
theorem test_aug_magnitude : after
    (step { lower 0o14_0_00205 [(0o205, 0o7777777777777775)] with a := 1, aug := some 4 })
    (fun t => t.a == 3 && t.aug == none) = true := by decide
theorem test_cis : after (step { upper 0o77_2_00000 with irLatch := 2 }) (fun t => t.a == 2) = true := by decide
theorem test_cpr : after (step { upper 0o77_4_00000 with irLatch := 2, im := 0o10 }) (fun t => t.a == 0) = true := by decide
theorem test_sen : after (step { upper 0o77_3_00110 with catI := { exit := true } })
    (fun t => place t == (0o1001, .upper)) = true := by decide
theorem test_sen_lower : after (step { lower 0o77_3_00110 with catI := { exit := false } })
    (fun t => place t == (0o1001, .upper)) = true := by decide
theorem test_eub : after (step (upper 0o77_5_02000)) (fun t => t.bu == 0o10 && t.bl == 0) = true := by decide
theorem test_elb : after (step (upper 0o77_6_01000)) (fun t => t.bl == 4 && t.bu == 0) = true := by decide

/-- Bounds checking in effect with the region 01000 to 01777, and the Category I lockout set. -/
def guard (s : State) : State :=
  { s with bl := 4, bu := 0o10, im := 0o0100000000000000, active := true, catI := { lockout := true } }

theorem test_bounds_store : after (step { guard (upper 0o20_0_00500) with a := 5 })
    (fun t => t.word 0o500 == 0 && t.ir == 0o0100000000000000 && wentOn t) = true := by decide
theorem test_bounds_jump : after (step (guard (upper 0o75_0_02000)))
    (fun t => t.ir == 0o0100000000000000 && wentOn t) = true := by decide
theorem test_bounds_replace : after (step { guard (upper 0o70_0_00500 [(0o500, 5)]) with a := 3 })
    (fun t => t.a == 0o10 && t.word 0o500 == 5 && t.ir == 0o0100000000000000) = true := by decide
theorem test_bounds_eub : after (step (guard (upper 0o77_5_03000))) (fun t => t.bu == 0o10 && t.p == 0o20) = true := by
  decide

/-! ### Input and output (file 95, 2.13) -/

/-- Channel 0 is active; channel 1 installed. -/
def busy (s : State) : State := { s with channels := { c0 := { act := true, wc := 0o30, ad := 0o150 } } }
def twoChannels (s : State) : State := { s with params := { Params.basic with extraChannels := 1 } }

/-- A typewriter that is on, as equipment 4 of channel 0. -/
def withTypewriter (s : State) : State :=
  { s with channels := { c0 := { equips := [{ number := 4, device := .typewriter {} }] } } }

theorem test_conn_busy : after (step (busy (long 0o7400202000004000)))
    (fun t => place t == (0o2020, .upper)) = true := by decide
theorem test_conn_reply : after (step (withTypewriter (long 0o7400202000004000)))
    (fun t => place t == (0o1001, .upper) && t.channels.c0.connected == some 0o4000) = true := by decide
theorem test_extf_nothing_connected : after (step (long 0o7410202000000002))
    (fun t => place t == (0o2020, .upper)) = true := by decide
theorem test_begw : after (step (long 0o7430202000003000 [(0o3000, 0o0000010000000100)]))
    (fun t => t.channels.c0.act && t.channels.c0.wc == 0o100 && t.channels.c0.ad == 0o100 &&
      t.channels.c0.dir == .write && place t == (0o1001, .upper)) = true := by decide
theorem test_begr : after (step (twoChannels (long 0o7420202001003001 [(0o3001, 0o0000007700000200)])))
    (fun t => t.channels.c1.act && t.channels.c1.wc == 0o77 && t.channels.c1.ad == 0o200 &&
      t.channels.c1.dir == .read && !t.channels.c0.act) = true := by decide
theorem test_copy_not_installed : step (long 0o7440000001000000) = .refused .channelNotInstalled := rfl
theorem test_copy : after (step (busy (long 0o7440000000000000))) (fun t => t.a == 0o0000003000000150) = true := by decide
theorem test_ccwd : after (step { busy (long 0o7460000000000000) with a := 0o0000007700000400 })
    (fun t => t.a == 0o0000003000000150 && t.channels.c0.wc == 0o77 && t.channels.c0.ad == 0o400) = true := by decide
theorem test_clch : after (step { busy (long 0o7450000000000000) with irLatch := 0o4000000 })
    (fun t => !t.channels.c0.act && t.channels.c0.wc == 0 && t.channels.c0.ad == 0 && t.ir == 0) = true := by decide
theorem test_channel_input : after
    (receive 0 [.data 0o0102, .data 0o0304, .data 0o0506, .data 0o0710]
      { stored [] with channels := { c0 := { act := true, dir := .read, ad := 0o200, wc := 2 } } })
    (fun t => t.word 0o200 == 0o0102030405060710 && t.channels.c0.ad == 0o201 && t.channels.c0.wc == 1) = true := by decide
theorem test_channel_output : after
    (channelCycle { stored [(0o100, 0o0102030405060710)] with
      channels := { c0 := { act := true, dir := .write, ad := 0o100, wc := 1 } } } 0)
    (fun t => t.channels.c0.out == [0o0102, 0o0304, 0o0506, 0o0710] && t.channels.c0.wc == 0) = true := by decide

/-- The codes of the source's examples for the typewriter and the coupler (file 95, S13, S14). -/
theorem test_typewriter_clear_both :
    typewriterFunction 0 6 { abnormalSelected := true, interruptUp := true } = {} := by decide
theorem test_coupler_flags : (couplerFunction 0o0405 {}).2.flags = 0b101 ∧
    (couplerFunction 0o1122 { flags := 0b11111111 }).2.flags = 0b10101101 ∧
    (couplerFunction 0o2003 {}).2.mask = 0b11 ∧ (couplerFunction 0o4003 { mask := 0b111 }).2.mask = 0b100 := by decide

/-- Another agent changes the entry word between the store of a return jump and its reading into U (rule R74). -/
theorem test_rtj_interleaved : after (step { upper 0o75_4_00500 entry with between := [(1, .corrupt 0o500 3)] })
    (fun t => t.u == 0o7500100112000603 && t.word 0o500 == 0o7500100112000603) = true := by decide

/-- The two sides of a printer (rule R360), and a control at a tape unit another channel has reserved (rule R378). -/
theorem test_printer_other_side : let d : Printer := { machine := { holder := .channel 1 } }
    (printerConnect 0 d).1 = .reject ∧ (printerConnect 1 d).1 = .reply ∧ (printerStatus 0 d).getLsbD 11 = true := by decide
theorem test_tape_reserved : (tapeConnect 0 0o4003 { units := [{ number := 3, holder := .channel 1 }] }).1 = .reject ∧
    (tapeConnect 0 0o4003 { units := [{ number := 3 }] }).1 = .reply := by decide

/-- A Reverse Read from load point halts indefinitely (rule R380). -/
theorem test_tape_reverse_load_point :
    let d : TapeControl := { unit := some 3, units := [{ number := 3, holder := .channel 0, loadPoint := true }], reverse := true }
    (tapeEndOfRecord { channel := 0, connected := true, op := some .read } d).2 = [] := by decide

/-- A tape at a Read, one record of it moving: the record ends once, with one End of Record, and leaves the tape in the
gap; a file mark read in Binary mode is a Vertical Parity Error; a rewind is no abnormal end (rule R384, rule R385). -/
def reading (m : Motion) : TapeControl :=
  { unit := some 3, units := [{ number := 3, holder := .channel 0, motion := some m }], running := decide (m = .record .read) }
def readLink : Link := { channel := 0, connected := true, op := some .read }

theorem test_tape_record_ends_once :
    let r := tapeEndOfRecord readLink (reading (.record .read))
    r.2 = [.endOfRecord] ∧ r.1.selections.ended = true ∧ r.1.units.map (·.motion) = [some .gap] ∧
    (tapeMotionDone readLink 3 false false false { r.1 with selections := {} }).2 = [] ∧
    (tapeMotionDone readLink 3 false false false { r.1 with selections := {} }).1.selections = {} := by decide
theorem test_tape_file_mark_rewind :
    let r := (tapeMotionDone readLink 3 true false false (reading (.record .read))).1
    r.vertical = true ∧ r.selections.trouble = true ∧
    (tapeMotionDone readLink 3 false true false (reading .rewind)).1.selections = { ended := true } := by decide
/-- The rise and drop conditions of File Mark and End of Tape (rule R385). -/
theorem test_tape_lines :
    let u : TapeUnit := { number := 3, fileMark := true, endOfTape := true }
    let skipped := stopMotion .skipBadSpot false false false (startMotion false .skipBadSpot u)
    let backed := stopMotion .searchBackward true true false (startMotion false .searchBackward u)
    (skipped.fileMark, skipped.endOfTape) = (true, true) ∧
    (backed.fileMark, backed.loadPoint, backed.endOfTape) = (true, true, false) ∧
    (startMotion true .backspace u).backward = false := by decide

/-- Released by both channels, the punch takes the bytes of one Write at a time (rule R400), and stays busy with it though
the other channel is cleared (rule R402). -/
theorem test_card_punch_one_user :
    let d := cardPunchBegin 1 (cardPunchBegin 0 {})
    cardPunchFree 0 d = true ∧ cardPunchFree 1 d = false ∧
    (cardPunchStatus { channel := 0, connected := true } (cardPunchClear 1 d)).getLsbD 1 = true := by decide

/-- A clear of the other channel leaves the conversion of the Write under way. -/
theorem test_card_punch_negate : let d : CardPunch := { negate := true, user := some 0 }
    (cardPunchClear 1 d).negate = true ∧ (cardPunchClear 0 d).negate = false := by decide

/-- A Read that takes nothing of the card leaves it, one that takes a column discards the rest (rule R409). -/
theorem test_card_reader_discard :
    let d := cardReaderBegin 0 (loadCard (List.replicate 51 1) {})
    (cardReaderEnd 0 d).loaded = true ∧ (cardReaderEnd 0 (nextCardByte 0 d).1).loaded = false := by decide

/-- A typewriter that is off does not shift (rule R475). -/
theorem test_typewriter_off : deviceBegin 0 .write (.typewriter { on := false, upperCase := true }) =
    .typewriter { on := false, upperCase := true } := by decide

/-- Indirect addressing alone makes an Operand cycle, and so does the entry of an illegal EUB (rule R75, rule R476). -/
theorem test_cycle_lights : State.reset.cycleOf (.ena 7 0) = .operand ∧ State.reset.cycleOf (.ena 1 0) = .execute ∧
    (guard (upper 0)).cycleOf (.eub 0) = .operand := by decide

/-! ### Interrupts (file 95, 2.14, P4) -/

/-- An overflow is about to interrupt. -/
def armed (s : State) : State := { s with active := true, im := 0o10, a := 0o3777777777777777 }

theorem test_interrupt_upper : after
    (step (armed (upper 0o14_0_02000 [(7, 0o7500000075000400), (0o2000, 0o3777777777777777)])))
    (fun t => t.word 7 == 0o7500100075000400 && t.catI == ⟨true, true, true⟩ && place t == (7, .lower)) = true := by decide
theorem test_interrupt_lower : after
    (step (armed (lower 0o14_0_02000 [(7, 0o7500000075000400), (0o2000, 0o3777777777777777)])))
    (fun t => t.word 7 == 0o7500100175000400 && t.catI == ⟨true, true, false⟩ && place t == (7, .lower)) = true := by decide
theorem test_interrupt_return : after
    (step { stored [(7, 0o7500100175000400), (0o1001, 0o1200200014002000)] with p := 7, catI := ⟨true, true, true⟩ })
    (fun t => t.catI == ⟨false, false, true⟩ && place t == (0o1001, .lower) && t.u == 0o1200200014002000) = true := by
  decide
theorem test_ill26 : after (step (upper 0o26_0_00000 [(0o20, 0o7500000076000020)]))
    (fun t => t.word 0o20 == 0o7500100176000020 && place t == (0o20, .lower)) = true := by decide
theorem test_ill27 : after (step (lower 0o27_0_00000 [(0o20, 0o7500000076000020)]))
    (fun t => t.word 0o20 == 0o7500100176000020 && place t == (0o20, .lower)) = true := by decide
theorem test_ill777 : after (step (upper 0o77_7_00000)) (fun t => place t == (0o20, .lower)) = true := by decide
theorem test_ill747 : after (step (long 0o7470000000000000)) (fun t => place t == (0o20, .lower)) = true := by decide
theorem test_undef62 : step (upper 0o62_0_00000) = .refused .undefinedCode62 := rfl

/-- The state of the fetch interface runs its instruction on the very next step. -/
theorem test_withFetchWord : after (step (State.reset.withFetchWord 24 0o10_0_00005))
    (fun t => t.a == 5 && t.h == .lower) = true := by decide +kernel

/-! ## States and operands that meet the hypotheses of the statements -/

/-- A running state: B1 is 3, word 00100 is an indirect address to 1 00200, word 00101 names itself, 00200 and 00203
hold words, and the guarded one checks the bounds 01000 to 01777. -/
def calm : State :=
  { stored [(0o100, 0o100200), (0o101, 0o700101), (0o200, 0o7777777777777776), (0o203, 5), (0o1000, 0o1200020075000500)]
    with b := { b1 := 3 }, a := 6, q := 7 }
def guarded : State := guard calm

theorem goodParity_setCell (s : State) (a : Addr) (v : Word) (h : GoodParity s) : GoodParity (s.setCell a (cellOf v)) := by
  intro x
  by_cases hx : x = a
  · rw [hx, State.setCell_cell_same, badParity_cellOf]
  · rw [State.setCell_cell_other _ _ _ _ hx, h x]

theorem goodParity_reset : GoodParity State.reset := fun _ => badParity_cellOf 0

/-- The limits of the guarded region, on either side (rule R458). -/
theorem test_guarded_limits : guarded.allowed 0o777 = false ∧ guarded.allowed 0o1000 = true ∧
    guarded.allowed 0o1777 = true ∧ guarded.allowed 0o2000 = false ∧ guarded.allowed 0o77777 = false := by decide

/-- Addresses are reached at once, and through an indirect word. -/
theorem test_reaches_direct : Reaches calm 1 0o200 1 0o200 calm := rfl
theorem test_reaches_indirect : Reaches calm 7 0o100 1 0o200 (calm.noteParity 0o100) := by
  have h : (calm.word 0o100).extractLsb' 15 3 = 1 ∧ lowerAddress (calm.word 0o100) = 0o200 := by decide
  rw [Reaches, resolve, if_pos rfl, resolveFrom, if_pos rfl, withRead_present _ _ _ rfl, gap_quiet (calm.noteParity 0o100) rfl,
    andThen_next, h.1, h.2]
  rfl

theorem test_witness_EncodeOfDecode : decodeHalf 0o12_2_00200 = .ok (.lda 2 0o200) ∧
    decodeUpper 0o7400202000004000 = .ok (.conn 0o2020 0 0o4000) ∧
    decodeUpper 0o1220020050000000 = .ok (.lda 2 0o200) := by decide

theorem test_witness_IllegalCodes : decodeHalf 0o77_7_00000 = .ok (.ill777 0) ∧ isIllegal (.ill777 0) = true ∧
    decodeUpper 0o7470000000000001 = .ok (.ill747 1) ∧ isIllegal (.ill747 1) = true := by decide

theorem test_witness_StepRunsInstruction_upper : calm.Alone ∧ calm.run = .running ∧ calm.h = .upper ∧
    calm.present calm.p = true ∧ calm.allowed calm.p = true ∧ badParity (calm.cell calm.p) = false ∧
    decodeUpper (calm.word calm.p) = .ok (.lda 0 0o200) := ⟨⟨rfl, rfl⟩, by decide⟩

theorem test_witness_StepRunsInstruction_lower : (lower 0o12_0_00200).Alone ∧ (lower 0o12_0_00200).run = .running ∧
    (lower 0o12_0_00200).h = .lower ∧ decodeLower (lower 0o12_0_00200).u = .ok (.lda 0 0o200) :=
  ⟨⟨rfl, rfl⟩, by decide⟩

/-- A running computer, one that is stopped, one that hangs, and a return that has not been made. -/
theorem test_witness_StepRunsInstruction_finish : (calm.ret = none ∧ calm.run = .running ∧ calm.Quiet) ∧
    State.run { calm with run := .stopped .instructionParity } ≠ .running ∧
    State.unfinished { calm with run := .hung } = true ∧
    State.ret { calm with ret := some ⟨.lower, false⟩ } ≠ none ∧
    State.unfinished { calm with ret := some ⟨.lower, false⟩ } = false := ⟨⟨rfl, rfl, rfl⟩, by decide⟩

theorem test_witness_StoppedComputerStays :
    ∀ r ∈ [Run.stopped .masterClear, .stopped (.sls false 0o500 false), .hung, .loading 0],
      State.inputs { calm with run := r } = [] ∧ r ≠ .running ∧ r ≠ .loaded := by decide

theorem test_witness_StepKeepsInvariant : calm.Inv ∧ ∃ t, step calm = .next t :=
  ⟨⟨by decide, by decide, by decide, by decide, by decide, by decide, by decide, by decide⟩, _, rfl⟩

/-- The switches locked out, and the system on with the computer running. -/
theorem test_witness_MasterClears :
    let off : State := { calm with console := { systemActive := false } }
    off.console.systemActive = false ∧ off.console.maint = false ∧ isLockable off (.manualStart 0) = true ∧
    isLockable off (.equipment 0 0 .manual) = true ∧ isLockable off (.equipmentNumber 0 0 5) = true ∧
    calm.console.systemActive = true ∧ calm.run = .running := by decide

/-- The last channel of two, with a connected typewriter and one side of a printer. -/
theorem test_witness_MasterClears_equipment :
    let es : List Equipment :=
      [{ number := 4, connected := true, device := .typewriter { interruptUp := true } },
       { number := 2, machine := some 0, device := .printer {} }]
    let s : State := { twoChannels calm with channels := { c1 := { equips := es } } }
    1 < s.params.nchan ∧ (s.channel 1).equips[0]? = es[0]? ∧ (s.channel 1).equips[1]? = es[1]? ∧
    es[0]?.any (fun e => e.machine.isNone && deviceInterrupt 1 e.device) = true ∧
    es[1]?.any (fun e => e.machine.isSome) = true := by decide

/-- Two typewriters of one number on the auto-load channel, and one. -/
def twoAlike : State :=
  { calm with channels := { c0 := { equips := [{ number := 0, device := .typewriter {} }, { number := 0, device := .typewriter {} }] } } }

theorem test_witness_RestartAndAutoLoad : calm.switchesLive = true ∧ calm.Quiet ∧
    State.enterable { externalMasterClear calm with active := false, aug := none, ret := none, run := .running } 0
      calm.p ∧ calm.console.autoChannel.val < calm.params.nchan ∧
    1 < countNumber (twoAlike.console.autoConnect.extractLsb' 9 3) (twoAlike.channel 0).equips ∧
    countNumber (calm.console.autoConnect.extractLsb' 9 3) (calm.channel 0).equips = 1 :=
  ⟨rfl, rfl, ⟨rfl, by decide +kernel⟩, by decide, by decide, by decide⟩

theorem test_witness_RestartAndAutoLoad_loaded (e : Half) :
    let s : State := { calm with run := .loaded, params := { Params.basic with autoloadEntry := e } }
    s.inputs = [] ∧ s.run = .loaded ∧ s.params.autoloadEntry = e ∧ s.Quiet ∧ s.enterable 0 s.p :=
  ⟨rfl, rfl, rfl, rfl, rfl, (by decide +kernel : badParity (calm.linked 0 calm.p) = false)⟩

/-- A step that executes LDA, one that executes ELB, and a master clear. -/
theorem test_witness_OnlyEnterBoundsWriteBounds : (∃ t, step calm = .next t) ∧
    calm.nextInstruction = some (.lda 0 0o200) ∧ (∃ t, step (upper 0o77_6_01000) = .next t) ∧
    (upper 0o77_6_01000).nextInstruction = some (.elb 0o1000) ∧
    (∃ t, deliver .internalMasterClear calm = .next t) := ⟨⟨_, rfl⟩, by decide, ⟨_, rfl⟩, by decide, _, rfl⟩

theorem test_witness_RegistersWrittenAsListed : (∃ t, exec (.sta 1 0o200) calm = .next t) ∧ writesA (.sta 1 0o200) = false ∧
    writesQ (.sta 1 0o200) = false ∧ writesIndex (.sta 1 0o200) = false := ⟨⟨_, rfl⟩, rfl, rfl, rfl⟩

theorem test_witness_InterruptSystemFrame : calm.Quiet ∧ (∃ t, exec (.lda 1 0o200) calm = .next t) ∧
    changesChannel (.lda 1 0o200) = false ∧ isInf (.lda 1 0o200) = false ∧ isFloating (.lda 1 0o200) = false :=
  ⟨rfl, ⟨_, rfl⟩, rfl, rfl, rfl⟩

theorem test_witness_FaultBitsStick : isInf (.lda 1 0o200) = false ∧ (∀ r x m, Instr.lda 1 0o200 ≠ .clch r x m) ∧
    (∃ t, exec (.lda 1 0o200) { calm with irLatch := 2 } = .next t) ∧ 1 ∉ [30, 31, 32, 33] ∧
    (State.ir { calm with irLatch := 2 }).getLsbD 1 = true := ⟨rfl, by simp, ⟨_, rfl⟩, by decide, by decide⟩

theorem test_witness_StorageFrame : calm.Quiet ∧ storesNothing (.add 1 0o200) = true ∧ Reaches calm 1 0o200 1 0o200 calm ∧
    (∃ t, exec (.add 1 0o200) calm = .next t) ∧ (∃ t, exec (.sta 1 0o200) calm = .next t) ∧
    (∃ t, exec (.siu 1 0o200) calm = .next t) := ⟨rfl, rfl, rfl, ⟨_, rfl⟩, ⟨_, rfl⟩, _, rfl⟩

theorem test_witness_StorageFrame_entries : (∃ t, exec (.rtj 0o500) calm = .next t) ∧
    (∃ t, exec (.fad 1 0o200) calm = .next t) ∧ (∃ t, exec (.eub 0) guarded = .next t) := ⟨⟨_, rfl⟩, ⟨_, rfl⟩, _, rfl⟩

theorem test_witness_OutsideConditions : calm.switchesLive = true ∧ calm.im.getLsbD 43 = false ∧
    State.switchesLive { guarded with im := 0o0300000000000000 } = true ∧
    (0o0300000000000000 : Word).getLsbD 43 = true := by decide

theorem test_witness_CheckedWrites : guarded.present 0o777 = true ∧ guarded.present 0o1000 = true ∧
    guarded.allowed 0o777 = false ∧ guarded.allowed 0o1000 = true ∧ badParity (guarded.cell 0o1000) = false := by decide

theorem test_witness_IndexDesignators : (0 : BitVec 3) ≠ 7 ∧ (1 : BitVec 3) ≠ 0 ∧ (6 : BitVec 3) ≠ 7 := by decide

theorem test_witness_IndirectAddressing : calm.Quiet ∧ calm.present 0o100 = true ∧ calm.present 0o101 = true ∧
    (calm.word 0o100).extractLsb' 15 3 ≠ 7#3 ∧
    (calm.word 0o101).extractLsb' 15 3 = 7#3 ∧ (calm.word 0o101).extractLsb' 0 15 = (0o101 : Addr) ∧
    resolveFrom 2 7 0o100 calm = .next (.done 1 0o200 (calm.noteParity 0o100)) :=
  ⟨rfl, by decide, by decide, by decide, by decide, by decide, rfl⟩

/-- A chain of two words. -/
theorem test_witness_IndirectAddressing_chain :
    let s : State := calm.setCell 0o102 (cellOf 0o700100)
    s.Quiet ∧ s.present 0o102 = true ∧ (s.word 0o102).extractLsb' 15 3 = 7#3 ∧
    (s.word 0o102).extractLsb' 0 15 = (0o100 : Addr) ∧ (s.word 0o100).extractLsb' 15 3 ≠ 7#3 ∧
    resolveFrom 3 7 0o102 s = .next (.done 1 0o200 ((s.noteParity 0o102).noteParity 0o100)) :=
  ⟨rfl, by decide, by decide, by decide, by decide, rfl⟩

theorem test_witness_AdderMeaning : ovfAdd (0o3777777777777777 : Word) 1 = true ∧
    ovfAdd (0o3777777777777776 : Word) 1 = false ∧ ovfAdd (0o4000000000000000 : Word) 0o7777777777777776 = true ∧
    ocAdd (0o7777777777777777 : Word) 0o7777777777777777 = 0o7777777777777777 := by decide

/-- For LoadWords, LoadIndex, LogicalResults, AddAndSubtract, MultiplyInteger: an operand that is reached and exists,
at the last address too. -/
theorem test_witness_operand : Reaches calm 1 0o200 1 0o200 calm ∧ calm.present (modified calm 1 0o200) = true ∧
    calm.present 0o200 = true ∧ Reaches calm 0 0o77777 0 0o77777 calm ∧ calm.present (modified calm 0 0o77777) = true :=
  ⟨rfl, rfl, rfl, rfl, rfl⟩

theorem test_witness_LoadWords : Reaches calm 7 0o100 1 0o200 (calm.noteParity 0o100) ∧
    (calm.noteParity 0o100).present (modified (calm.noteParity 0o100) 1 0o200) = true :=
  ⟨test_reaches_indirect, by decide⟩

theorem test_witness_TransmitAndEnter : (1 : BitVec 3) ≠ 0 ∧ (6 : BitVec 3) ≠ 7 ∧ Reaches calm 1 0o77777 1 0o77777 calm :=
  ⟨by decide, by decide, rfl⟩

theorem test_witness_LoadIndex : Reaches calm 2 0o200 2 0o200 calm ∧ calm.present 0o200 = true := ⟨rfl, rfl⟩

theorem test_witness_StoreWords : Reaches guarded 0 0o1000 0 0o1000 guarded ∧ guarded.allowed 0o1000 = true ∧
    guarded.present 0o1000 = true ∧ Reaches guarded 0 0o2000 0 0o2000 guarded ∧
    guarded.allowed (modified guarded 0 0o2000) = false := ⟨rfl, by decide, by decide, rfl, by decide⟩

theorem test_witness_StoreFields : Reaches guarded 1 0o1774 1 0o1774 guarded ∧ guarded.allowed 0o1774 = true ∧
    guarded.present 0o1774 = true ∧ modified guarded 1 0o1774 = 0o1777 ∧ guarded.allowed 0o1777 = true ∧
    guarded.present 0o1777 = true ∧ Reaches guarded 0 0o777 0 0o777 guarded ∧ guarded.allowed 0o777 = false :=
  ⟨rfl, by decide, by decide, by decide, by decide, by decide, rfl, by decide⟩

theorem test_witness_AddAndSubtract : Reaches calm 1 0o200 1 0o200 calm ∧
    calm.present (modified calm 1 0o200) = true ∧ ovfAdd calm.a 5 = false := ⟨rfl, by decide, by decide⟩

theorem test_witness_MultiplyInteger : Reaches calm 0 0o200 0 0o200 calm ∧ calm.present (modified calm 0 0o200) = true ∧
    ocVal (calm.word 0o200) = -1 := ⟨rfl, by decide, by decide⟩

/-- Divided by 1, the largest quotient that fits and the smallest that does not; and a divisor that is zero. -/
def dividing (a : Word) : State := { stored [(0o200, 1)] with a := a }

theorem test_witness_DivideInteger : Reaches (dividing 0o3777777777777777) 0 0o200 0 0o200 (dividing 0o3777777777777777) ∧
    (dividing 0).present 0o200 = true ∧ (dividing 0).present 0o201 = true ∧ ocVal ((dividing 0).word 0o200) = 1 ∧
    ocVal ((0 : Word) ++ (0o3777777777777777 : Word)) = 2 ^ 47 - 1 ∧
    ocVal ((0 : Word) ++ (0o4000000000000000 : Word)) = 2 ^ 47 ∧ ocVal ((dividing 0).word 0o201) = 0 :=
  ⟨rfl, by decide, by decide, by decide, by decide, by decide, by decide⟩

theorem test_witness_IndexArithmetic : Reaches calm 1 3 1 3 calm ∧ calm.index 1 = 3 ∧ Reaches calm 1 4 1 4 calm ∧
    calm.index 1 ≠ 4 := ⟨rfl, by decide, rfl, by decide⟩

theorem test_witness_FloatingOption :
    let s : State := { calm with params := { Params.basic with fpo := true } }
    s.params.fpo = true ∧ Reaches s 1 0o200 1 0o200 s ∧ s.present (modified s 1 0o200) = true := ⟨rfl, rfl, by decide⟩

theorem test_witness_FloatingTrap : calm.params.fpo = false ∧ calm.Quiet ∧ calm.enterable 0o30 calm.p ∧ calm.enterable 0o33 calm.p ∧
    (lower 0).enterable 0o31 0o1001 := ⟨rfl, rfl, ⟨rfl, by decide +kernel⟩, ⟨rfl, by decide +kernel⟩, rfl, by decide +kernel⟩

theorem test_witness_LogicalResults : Reaches calm 1 0o200 1 0o200 calm ∧ calm.present (modified calm 1 0o200) = true :=
  ⟨rfl, by decide⟩

/-- K at the limits of the shift fault: 00000, 00177, 00200. -/
theorem test_witness_Shifts : Reaches calm 0 0 0 0 calm ∧ Reaches calm 0 0o177 0 0o177 calm ∧
    (modified calm 0 0o177).toNat = 0o177 ∧ Reaches calm 1 0o175 1 0o175 calm ∧ (modified calm 1 0o175).toNat = 0o200 :=
  ⟨rfl, rfl, by decide, rfl, by decide⟩

theorem test_witness_Scaling : Reaches calm 1 0o77777 1 0o77777 calm ∧ ocVal calm.a ≠ 0 ∧ Reaches calm 1 0 1 0 calm ∧
    ocVal State.reset.a = 0 := ⟨rfl, by decide, rfl, by decide⟩

theorem test_witness_ReplaceResults : Reaches guarded 1 0o1774 1 0o1774 guarded ∧ guarded.Quiet ∧
    guarded.present (modified guarded 1 0o1774) = true ∧ guarded.allowed (modified guarded 1 0o1774) = true ∧
    Reaches guarded 1 0o1775 1 0o1775 guarded ∧ guarded.allowed (modified guarded 1 0o1775) = false :=
  ⟨rfl, rfl, by decide, by decide, rfl, by decide⟩

theorem test_witness_StorageTests : Reaches guarded 0 0o1000 0 0o1000 guarded ∧ guarded.Quiet ∧
    guarded.present 0o1000 = true ∧ guarded.allowed (modified guarded 0 0o1000) = true ∧
    Reaches guarded 0 0o200 0 0o200 guarded ∧ guarded.allowed (modified guarded 0 0o200) = false ∧
    (guarded.word 0o200).getLsbD 47 = true ∧ (lower 0).h = .lower :=
  ⟨rfl, rfl, by decide, by decide, rfl, by decide, by decide, by decide⟩

/-- A list of two words, the first of them equal to A, and counts of 0 and 2. -/
def searching (n : Addr) : State :=
  { (State.reset.setCell 0o2000 (cellOf 7)).setCell 0o2001 (cellOf 3) with b := { b1 := n }, a := 7 }

theorem goodParity_searching (n : Addr) : GoodParity (searching n) := by
  have h := goodParity_setCell _ 0o2001 3 (goodParity_setCell _ 0o2000 7 goodParity_reset)
  intro a
  have ha := h a
  simp only [State.cell, searching] at ha ⊢
  exact ha

theorem test_witness_Searches (n : Addr) : Reaches (searching n) 1 0o2000 1 0o2000 (searching n) ∧ (searching n).Quiet ∧
    GoodParity (searching n) ∧ (∀ a, (searching n).present a = true) :=
  ⟨resolve_direct _ _ _ (by decide), rfl, goodParity_searching n, fun _ => rfl⟩

theorem test_witness_Searches_hit : ((searching 2).index 1).toNat = 2 ∧ ((searching 0).index 1).toNat = 0 ∧
    ocVal ((searching 2).word (ocAdd 0o2000 (BitVec.ofNat 15 0))) = ocVal (searching 2).a ∧
    ocVal ((searching 2).word (ocAdd 0o2000 (BitVec.ofNat 15 1))) ≠ ocVal (searching 2).a := by decide

theorem test_witness_Searches_miss : ∀ j < ((searching 0).index 1).toNat,
    decide (ocVal ((searching 0).word (ocAdd 0o2000 (BitVec.ofNat 15 j))) = ocVal (searching 0).a) = false := by decide

/-- Both zeros, and the least positive and negative numbers, under the conditions of the register jumps. -/
theorem test_witness_NormalJumps : calm.ret = none ∧ JumpTest 0 0 ∧ JumpTest 0 0o7777777777777777 ∧ JumpTest 1 1 ∧
    JumpTest 2 0 ∧ JumpTest 3 0o7777777777777777 ∧ JumpTest 3 0o4000000000000000 ∧ calm.allowed 0o777 = true ∧
    guarded.allowed 0o777 = false ∧ guarded.ret = none ∧ calm.console.jump1 = false := by
  refine ⟨rfl, ?_, ?_, ?_, ?_, ?_, ?_, by decide, by decide, rfl, rfl⟩ <;> unfold JumpTest <;> decide

theorem test_witness_IndexArithmetic_jump : calm.ret = none ∧ Reaches calm 1 0o500 1 0o500 calm ∧ calm.index 1 ≠ 0 ∧
    calm.allowed 0o500 = true ∧ Reaches guarded 1 0o500 1 0o500 guarded ∧ guarded.allowed 0o500 = false ∧
    Reaches calm 2 0o500 2 0o500 calm ∧ calm.index 2 = 0 :=
  ⟨rfl, rfl, by decide, by decide, rfl, by decide, rfl, by decide⟩

theorem test_witness_ReturnJumps : calm.Quiet ∧ JumpTest 1 calm.a ∧ calm.allowed 0o500 = true ∧
    calm.enterable 0o500 (calm.p + 1) ∧ guarded.allowed 0o777 = false ∧ guarded.Quiet ∧ ¬JumpTest 0 calm.a :=
  ⟨rfl, by unfold JumpTest; decide, by decide, ⟨rfl, by decide +kernel⟩, by decide, rfl, by unfold JumpTest; decide⟩

theorem test_witness_SelectiveStops : (calm.console.maint = false ∧ calm.ret = none ∧ calm.allowed 0o500 = true) ∧
    calm.Quiet ∧ calm.enterable 0o500 (calm.p + 1) ∧ (guarded.console.maint = false ∧ guarded.ret = none) ∧
    guarded.allowed 0o777 = false ∧
    State.console { calm with console := { stop1 := true, maint := true } } = { stop1 := true, maint := true } :=
  ⟨by decide, rfl, ⟨rfl, by decide +kernel⟩, by decide, by decide, rfl⟩

/-- Every selective stop, its address in bounds and out of bounds, and the instruction parity stop. -/
theorem test_witness_GoSwitch (ret off : Bool) :
    let s (b : State) : State := { b with run := .stopped (.sls ret 0o500 off) }
    ((s calm).switchesLive = true ∧ (s calm).ret = none ∧ (s calm).allowed 0o500 = true) ∧ (s calm).Quiet ∧
    (s calm).enterable 0o500 (calm.p + 1) ∧ (s guarded).switchesLive = true ∧ (s guarded).ret = none ∧
    (s guarded).allowed 0o500 = false :=
  ⟨⟨rfl, rfl, rfl⟩, rfl, ⟨rfl, (by decide +kernel : badParity (calm.linked 0o500 (calm.p + 1)) = false)⟩, rfl, rfl,
    (by decide : guarded.allowed 0o500 = false)⟩

theorem test_witness_GoSwitch_parity :
    let s : State := { calm with run := .stopped .instructionParity }
    s.switchesLive = true ∧ s.h = .upper ∧ calm.interruptPending = false ∧
    State.interruptPending { calm with active := true, im := 0o10, irLatch := 0o10 } = true := by decide

/-- The first and the last selector of the table. -/
theorem test_witness_Characters :
    let s (n : Addr) : State := { guarded with b := { b2 := n } }
    (2 : BitVec 3) ≠ 0 ∧ (2 : BitVec 3) ≠ 7 ∧ ((s 0).index 2).toNat = 0 ∧ ((s 42).index 2).toNat = 42 ∧ (s 0).Quiet ∧
    Reaches (s 0) 0 0o1000 0 0o1000 (s 0) ∧ (s 0).present (modified (s 0) 0 0o1000) = true ∧
    (s 0).allowed (modified (s 0) 0 0o1000) = true ∧ (s 0).allowed (modified (s 0) 0 0o777) = false :=
  ⟨by decide, by decide, by decide, by decide, rfl, rfl, by decide, by decide, by decide⟩

theorem test_witness_SenseAndCopy : calm.h = .upper ∧ (lower 0).h = .lower := by decide

/-- Numbers beside those the tables list, and the first channel that is not installed. -/
theorem test_witness_UndefinedStops :
    (0o777 : Addr).toNat ∉ infCodes ∧ (0o603 : Addr).toNat ∉ infCodes ∧ (0o112 : Addr).toNat ∉ senCodes ∧
    calm.h = .upper ∧ (State.index { calm with b := { b2 := 48 } } 2).toNat ∉ [0, 6, 12, 18, 24, 30, 36, 42] ∧
    (State.index { calm with b := { b2 := 1 } } 2).toNat ∉ [0, 6, 12, 18, 24, 30, 36, 42] ∧
    calm.params.nchan ≤ (1 : BitVec 3).toNat := by decide

/-- The neighbours of IAQ, ATI, LDC and STC; and 63 and 74 in a lower half. -/
theorem test_witness_UndefinedStops_zero : (0 : HalfWord).extractLsb' 18 6 = 0 ∧ (0 : HalfWord) ≠ 0o00700554 ∧
    (0 : HalfWord).extractLsb' 3 21 ≠ 0o0074054 ∧ (0o00700555 : HalfWord).extractLsb' 18 6 = 0 ∧
    (0o00700555 : HalfWord) ≠ 0o00700554 ∧ (0o00700555 : HalfWord).extractLsb' 3 21 ≠ 0o0074054 := by decide

theorem test_witness_UndefinedStops_long : (0o6302000750003000 : Word).extractLsb' 42 6 = 0o63 ∧
    (0o6302000750003000 : Word).extractLsb' 15 21 ≠ 0o0006500 ∧
    (0o6302000750003000 : Word).extractLsb' 15 21 ≠ 0o0006505 ∧
    (0o63000000 : Word).extractLsb' 18 6 = 0o63 ∧ (0o74700000 : Word).extractLsb' 18 6 = 0o74 := by decide

/-- Each unused field of Class III. -/
theorem test_witness_UndefinedStops_unused :
    ((0o7400202010004000 : Word).extractLsb' 42 6 = 0o74 ∧ (0o7400202010004000 : Word).extractLsb' 39 3 ≠ 7 ∧
      (0o7400202010004000 : Word).extractLsb' 21 3 ≠ 0) ∧
    ((0o7460202000100000 : Word).extractLsb' 42 6 = 0o74 ∧ (0o7460202000100000 : Word).extractLsb' 39 3 ≠ 7 ∧
      (0o7460202000100000 : Word).extractLsb' 15 3 ≠ 0) ∧
    ((0o7410202000010002 : Word).extractLsb' 42 6 = 0o74 ∧ (0o7410202000010002 : Word).extractLsb' 39 3 = 1 ∧
      (0o7410202000010002 : Word).extractLsb' 12 3 ≠ 0) := by decide

theorem test_witness_UndefinedStops_step :
    let s := stored []
    let l := lower 0o74_0_02020
    s.Alone ∧ s.run = .running ∧ s.h = .upper ∧ s.present s.p = true ∧ badParity (s.cell s.p) = false ∧
    decodeUpper (s.word s.p) = .error (.undefinedZero 0) ∧ l.Alone ∧ l.run = .running ∧ l.h = .lower ∧
    decodeLower l.u = .error (.longInLowerHalf 0o74002020) :=
  ⟨⟨rfl, rfl⟩, rfl, rfl, rfl, by decide +kernel, by decide +kernel, ⟨rfl, rfl⟩, rfl, rfl, by decide⟩

theorem test_witness_Augment :
    let s : State := { stored [] with u := 0o7713000412000200, b := { b3 := 5 } }
    s.h = .upper ∧ s.Quiet ∧
    Reaches s ((0o30004 : Addr).extractLsb' s.params.augVLo.val 3) (s.u.extractLsb' 0 15) 3 0o200 s ∧ s.aug = none ∧
    State.aug { lower 0 with aug := some 4 } = some 4 := ⟨rfl, rfl, rfl, rfl, rfl⟩

theorem test_witness_EnterBounds : ¬(calm.active = true ∧ calm.im.getLsbD 42 = true) ∧ guarded.active = true ∧
    guarded.im.getLsbD 42 = true ∧ guarded.Quiet ∧ guarded.enterable 0o20 (guarded.p + 1) :=
  ⟨by decide, rfl, by decide, rfl, rfl, by decide +kernel⟩

theorem test_witness_IllegalTrap : isIllegal (.ill26 0) = true ∧ calm.Quiet ∧
    calm.enterable 0o20 (calm.p + 1) := ⟨rfl, rfl, rfl, by decide +kernel⟩

/-- An idle channel with a typewriter that is on, one without, and an active one, whose reject address is in bounds or
not. -/
theorem test_witness_ConnectAndFunction : (0 : BitVec 3).toNat < calm.params.nchan ∧ (busy calm).ret = none ∧
    ((busy calm).channel 0).act = true ∧ (busy calm).allowed 0o2020 = true ∧ (busy guarded).allowed 0o2020 = false ∧
    ((withTypewriter calm).channel 0).act = false ∧ ((withTypewriter calm).channel 0).blocked = false ∧
    ((withTypewriter calm).channel 0).codeFault = false ∧
    countNumber 4 ((withTypewriter calm).channel 0).equips ≤ 1 ∧
    (connectAll 0 0o4000 ((withTypewriter calm).channel 0).equips).1 = .reply ∧
    (connectAll 0 0o3000 ((withTypewriter calm).channel 0).equips).1 = .silent ∧
    ((withTypewriter calm).channel 0).connected = none := by decide

/-- A condition that is not cleared, a code with bad parity, and a connected equipment. -/
theorem test_witness_ConnectAndFunction_parity :
    let s (c : Channel) : State := { calm with channels := { c0 := c } }
    ((s { blocked := true }).channel 0).blocked = true ∧ ((s { codeFault := true }).channel 0).blocked = false ∧
    ((s { codeFault := true }).channel 0).codeFault = true ∧
    ((s { connected := some 0o4000, codeFault := true }).channel 0).connected ≠ none ∧
    ((s { connected := some 0o4000 }).channel 0).codeFault = false ∧
    connectParity 0o4000 [{ number := 4, device := .coupler {} }, { number := 3, device := .coupler {} }] =
      [{ number := 4, device := .coupler { paritySignal := true } }, { number := 3, device := .coupler {} }] := by decide

/-- Equipments of another number than the code's: a tape control, and a typewriter with an uncleared error and without. -/
theorem test_witness_ConnectAndFunction_other :
    (3 : BitVec 3) ≠ (0o4000 : Byte12).extractLsb' 9 3 ∧
    (connectAll 0 0o4000 [{ number := 3, connected := true, device := .tape { unit := some 1 } }]).2 =
      [{ number := 3, device := .tape {} }] ∧
    (connectAll 0 0o4000 [{ number := 3, connected := true, device := .typewriter {} }]).2 =
      [{ number := 3, device := .typewriter {} }] ∧
    (connectAll 0 0o4000 [{ number := 3, connected := true, device := .typewriter { transmissionError := true } }]).2 =
      [{ number := 3, connected := true, device := .typewriter { transmissionError := true } }] := by decide

/-- A typewriter that is off does not answer, a card punch reserved elsewhere rejects, and a connected typewriter
performs a function. -/
theorem test_witness_ConnectAndFunction_answers :
    (connectAll 0 0o4000 [{ number := 4, device := .typewriter { on := false } }]).1 = .silent ∧
    (connectAll 0 0o4000 [{ number := 4, device := .cardPunch { holder := .channel 1 } }]).1 = .reject ∧
    (functionAll 0 0 1 [{ number := 4, connected := true, device := .typewriter {} }]).1 = .reply ∧
    (functionAll 0 0 0o77 [{ number := 4, connected := true, device := .cardPunch {} }]).1 = .reject := by decide

theorem test_witness_BeginOperation : (0 : BitVec 3).toNat < calm.params.nchan ∧ (calm.channel 0).act = false ∧
    calm.present 0o203 = true ∧ ((busy calm).channel 0).act = true ∧ (busy calm).ret = none ∧
    (busy calm).allowed 0o2020 = true ∧
    (State.channel { calm with channels := { c0 := { act := true, stalled := true } } } 0).stalled = true := by decide

theorem test_witness_ChannelInstructions : (0 : BitVec 3).toNat < calm.params.nchan ∧
    State.params { calm with params := { Params.basic with extraChannels := 3 } } = { Params.basic with extraChannels := 3 } ∧
    (3 : BitVec 3).toNat < ({ Params.basic with extraChannels := 3 } : Params).nchan := by decide

theorem test_witness_ChannelMovesWords :
    let s (d : Direction) : State := { calm with channels := { c0 := { act := true, dir := d, ad := 0o77777, wc := 2 } } }
    ((s .read).channel 0).act = true ∧ (s .read).present 0o77777 = true ∧ ((s .read).channel 0).wc ≠ 0 ∧
    ((s .read).channel 0).wc ≠ 1 ∧ ((s .read).channel 0).asm = [] ∧ ((s .read).channel 0).dataFault = false ∧
    ((s .read).channel 0).reverse = false ∧ ((s .write).channel 0).dir = .write ∧ ((s .write).channel 0).out = [] := by
  decide

theorem test_witness_ChannelMovesWords_sum :
    let s : State := { calm with channels := { c0 := { act := true, dir := .read, ad := 0o77777, wc := 2 } } }
    (∃ t, channelCycle s 0 = .next t) ∧ (∃ t, inputByte s 0 5 = .next t) ∧ (∃ t, acceptByte s 0 true = .next t) ∧
    (∃ t, endOfRecord s 0 = .next t) := ⟨⟨_, rfl⟩, ⟨_, rfl⟩, ⟨_, rfl⟩, _, rfl⟩

/-- A printer, a card punch and a card reader on channels 0 and 1. -/
def shared (d : Device) : State :=
  { twoChannels calm with
    channels :=
      { c0 := { equips := [{ number := 2, machine := some 0, device := d }] },
        c1 := { equips := [{ number := 5, machine := some 0, device := d }] } } }

theorem test_witness_SharedMachines (d : Device) : ((0o2000 : Byte12).extractLsb' 9 3 = 2 ∧
    (0o5000 : Byte12).extractLsb' 9 3 = 5) ∧ ((shared d).channel 0).blocked = false ∧
    ((shared d).channel 0).codeFault = false ∧ ((shared d).channel 1).blocked = false ∧
    ((shared d).channel 1).codeFault = false ∧
    ((shared d).channel 0).equips = [{ number := 2, machine := some 0, device := d }] ∧
    ((shared d).channel 1).equips = [{ number := 5, machine := some 0, device := d }] :=
  ⟨by decide, rfl, rfl, rfl, rfl, rfl, rfl⟩

theorem test_witness_SharedMachines_devices : ({ machine := {} } : Printer).machine = {} ∧
    ({} : CardPunch).holder = .free ∧ ({} : CardPunch).user = none ∧ ({} : CardReader).holder = .free ∧
    ({} : CardReader).user = none := by decide

/-- The last byte of the last word to come, a word partly assembled, the last byte to be sent to a typewriter, and a
count of zero. -/
theorem test_witness_EndOfOperation :
    let s (c : Channel) : Channel := (State.channel { calm with channels := { c0 := c } } 0)
    let last : Channel := { act := true, asm := [1, 2, 3], wc := 1, ad := 0o77777 }
    let sent : Channel :=
      { act := true, dir := .write, out := [5], equips := [{ number := 4, connected := true, device := .typewriter {} }] }
    ((s last).op = some .read ∧ (s last).asm.length = 3 ∧ (s last).wc = 1 ∧ (s last).dataFault = false ∧
      calm.present (s last).ad = true ∧ (s last).asm ≠ []) ∧
    ((s sent).op = some .write ∧ (s sent).out = [5] ∧ (s sent).wc = 0 ∧ (s sent).fullCount = false ∧
      (s sent).taken 0 = true) ∧
    ((s { act := true }).op = some .read ∧ (s { act := true }).asm = [] ∧ (s { act := true }).op.isSome = true ∧
      (s { act := true }).out = [] ∧ (s { act := true }).wc = 0 ∧ (s { act := true }).fullCount = false) := by decide

theorem test_witness_CategoryIEntry :
    let s : State := { calm with active := true, im := 0o10, irLatch := 0o10 }
    (s.active = true ∧ s.catI.lockout = false ∧ s.aug = none ∧ s.ir &&& s.im ≠ 0) ∧ s.enterable 7 s.p ∧
    calm.active = false := ⟨by decide, ⟨rfl, by decide +kernel⟩, rfl⟩

/-- The return word w at 00007 or 00032, Mode set there, with either Exit flip-flop. -/
def returning (p : Addr) (exit : Bool) (w : HalfWord := 0o75001001) : State :=
  { stored [(p, w ++ 0#24)] with
    p := p, catI := { lockout := true, mode := decide (p = 7), exit := exit },
    catII := { mode := decide (p ≠ 7), exit := exit, addr := 2 } }

theorem test_witness_InterruptReturns (exit : Bool) : (∀ p ∈ [(7 : Addr), 0o32],
      (returning p exit).Alone ∧ (returning p exit).run = .running ∧ (returning p exit).h = .upper ∧
      (returning p exit).ret = none ∧ (returning p exit).p = p ∧ (returning p exit).switchesLive = true) ∧
    (returning 7 exit).catI.mode = true ∧ (returning 0o32 exit).catII.mode = true ∧
    (returning 0o32 exit).p = 0o30 + (returning 0o32 exit).catII.addr.setWidth 15 := by
  refine ⟨fun p _ => ⟨⟨rfl, rfl⟩, rfl, rfl, rfl, rfl, rfl⟩, ?_, ?_, ?_⟩ <;> revert exit <;> decide

/-- The return word is read, is the instruction i, and its address is that of a good word in bounds. -/
def readyToReturn (p : Addr) (w : HalfWord) (i : Instr) : Bool :=
  let s := returning p true w
  s.present p && s.allowed p && !badParity (s.cell p) && decide (decodeUpper (s.word p) = .ok i) &&
    s.present 0o1001 && !badParity (s.cell 0o1001) && s.allowed 0o1001

theorem test_witness_InterruptReturns_words : readyToReturn 7 0o75001001 (.slj 0o1001) = true ∧
    readyToReturn 0o32 0o75001001 (.slj 0o1001) = true ∧ readyToReturn 7 0o22001001 (.ajp 0 0o1001) = true ∧
    readyToReturn 7 0o22101001 (.ajp 1 0o1001) = true ∧ readyToReturn 7 0o55101001 (.ijp 1 0o1001) = true ∧
    readyToReturn 7 0o76001001 (.sls 0o1001) = true ∧ readyToReturn 7 0o76101001 (.ss1 0o1001) = true ∧
    readyToReturn 7 0o75401001 (.rtj 0o1001) = true ∧ jumpsNormally (.rtj 0o1001) = false ∧
    (∃ u, exec (.rtj 0o1001) (returning 7 true) = .next u ∧ u.unfinished = false) :=
  ⟨by decide, by decide, by decide, by decide, by decide, by decide, by decide, by decide, rfl, _, rfl, rfl⟩

/-- A return word that is in bounds and whose address is not. -/
theorem test_witness_InterruptReturns_bounds :
    let s : State := { returning 7 true with bu := 4, active := true, im := 0o0100000000000000 }
    s.present 7 = true ∧ s.allowed 7 = true ∧ s.switchesLive = true ∧ badParity (s.cell 7) = false ∧ s.allowed 0o1001 = false ∧
    (!s.params.boundsInInterrupt) = false := by decide

/-- A return word of 48 bits at 00007, with a typewriter on channel 0. -/
def returningLong (w : Word) : State :=
  withTypewriter { stored [(7, w)] with p := 7, catI := { lockout := true, mode := true, exit := true } }

/-- CONN that is answered and that is not, EXTF, BEGR and BEGW on an idle channel. -/
theorem test_witness_InterruptReturns_io :
    let t (w : Word) : State :=
      { returningLong w with catI := { exit := true }, u := w, ret := some { half := .lower, unchecked := false } }
    (decodeUpper ((returningLong 0o7400100100004000).word 7) = .ok (.conn 0o1001 0 0o4000) ∧
      decodeUpper ((returningLong 0o7410100100000002).word 7) = .ok (.extf 0o1001 0 2) ∧
      decodeUpper ((returningLong 0o7420100100003000).word 7) = .ok (.begr 0o1001 0 0o3000) ∧
      decodeUpper ((returningLong 0o7430100100003000).word 7) = .ok (.begw 0o1001 0 0o3000)) ∧
    ((returningLong 0).channel 0).act = false ∧ countNumber 4 ((returningLong 0).channel 0).equips ≤ 1 ∧
    (connectChannel (t 0) 0 0o4000).1 = .reply ∧ (connectChannel (t 0) 0 0o3000).1 = .silent ∧
    (functionChannel (t 0) 0 2).1 = .silent ∧ (t 0).allowed 0o1001 = true ∧ (t 0).present 0o3000 = true := by decide

/-- A count of zero and one that is left, in IJP as a return word; the word of a selective stop with return jump. -/
theorem test_witness_InterruptReturns_count : (returning 7 true).index 1 = 0 ∧
    State.index { returning 7 true with b := { b1 := 1 } } 1 ≠ 0 ∧ readyToReturn 7 0o76401001 (.srj 0o1001) = true ∧
    readyToReturn 0o32 0o76501001 (.sr1 0o1001) = true ∧
    State.console { returning 7 true with console := { stop1 := true, maint := true } } =
      { stop1 := true, maint := true } := by decide

/-- The words on either side of both limits. -/
theorem test_witness_BoundsProtectStorage : guarded.Alone ∧ guarded.run ≠ .loaded ∧ guarded.checksApply = true ∧
    (0o777 : Addr).toNat < 128 * guarded.bl.toNat ∧ guarded.bu ≠ 0 ∧ 128 * guarded.bu.toNat ≤ (0o2000 : Addr).toNat ∧
    (0o777 : Addr) ∉ entryWords ∧ (0o2000 : Addr) ∉ entryWords ∧ ∃ t, step guarded = .next t :=
  ⟨⟨rfl, rfl⟩, by decide, by decide, by decide, by decide, by decide, by decide, by decide, _, rfl⟩

theorem test_witness_InstructionRead :
    let s : State := calm.setCell 0o1000 (calm.cell 0o1000 ^^^ 1)
    let r : State := { guarded with p := 0o777 }
    (s.Alone ∧ s.run = .running ∧ s.h = .upper ∧ s.present s.p = true ∧ s.allowed s.p = true ∧
      badParity (s.cell s.p) = true) ∧
    (r.Alone ∧ r.run = .running ∧ r.h = .upper ∧ r.present r.p = true ∧ r.allowed r.p = false ∧
      badParity (r.cell r.p) = false) :=
  ⟨⟨⟨rfl, rfl⟩, by decide⟩, ⟨rfl, rfl⟩, by decide⟩

end Sys2Proof.Tests
end

section
/-! The one's complement adder over its integers, and the step as reading, execution and end of an instruction: the
statements of the spec's scope (rule R9, rule R11, rule R12, rule R14). -/

namespace Sys2Proof.Machine

/-! ## The one's complement adder -/

/-- A one's complement pattern by its unsigned value: 2^n - 1 less in the upper half (rule R9). -/
theorem ocVal_eq_toNat {n : Nat} (x : BitVec n) :
    ocVal x = if 2 ^ (n - 1) ≤ x.toNat then (x.toNat : Int) - (2 ^ n - 1) else x.toNat := by
  have hnot : ((~~~x).toNat : Int) = 2 ^ n - 1 - x.toNat := by
    rw [BitVec.toNat_not]
    push_cast [Nat.sub_sub, show 1 + x.toNat ≤ 2 ^ n by have := x.isLt; omega]
    ring
  simp only [ocVal, BitVec.msb_eq_decide, decide_eq_true_eq, hnot, neg_sub]

theorem eq_allOnes_iff_toNat {n : Nat} (x : BitVec n) : x = BitVec.allOnes n ↔ x.toNat = 2 ^ n - 1 := by
  rw [← BitVec.toNat_inj, BitVec.toNat_allOnes]

/-- The adder on unsigned values: the carry goes around, and the result is all ones only when both operands are
(rule R11). -/
theorem toNat_ocAdd {n : Nat} (x y : BitVec n) :
    (ocAdd x y).toNat =
      if x.toNat + y.toNat < 2 ^ n - 1 then x.toNat + y.toNat
      else if x.toNat + y.toNat = 2 * (2 ^ n - 1) then 2 ^ n - 1
      else x.toNat + y.toNat - (2 ^ n - 1) := by
  have hx := x.isLt
  have hy := y.isLt
  simp only [ocAdd, eq_allOnes_iff_toNat, apply_ite BitVec.toNat, BitVec.ofNat_eq_ofNat, BitVec.toNat_ofNat,
    Nat.zero_mod]
  rw [Nat.mod_eq_of_lt (by split_ifs <;> omega)]
  split_ifs <;> omega

/-- The one's complement sum over the integers, for every width: the sum itself where it fits, else the sum brought
back by 2^n - 1. -/
theorem ocVal_ocAdd {n : Nat} (hn : 0 < n) (x y : BitVec n) :
    ocVal (ocAdd x y) =
      if (ocVal x + ocVal y).natAbs < 2 ^ (n - 1) then ocVal x + ocVal y
      else if 0 < ocVal x + ocVal y then ocVal x + ocVal y - (2 ^ n - 1)
      else ocVal x + ocVal y + (2 ^ n - 1) := by
  have hx := x.isLt
  have hy := y.isLt
  have hcast : (2 ^ n : Int) = ((2 ^ n : Nat) : Int) := by push_cast; rfl
  have hhalf : 2 ^ n = 2 * 2 ^ (n - 1) := (mul_pow_sub_one hn.ne' 2).symm
  simp only [ocVal_eq_toNat, toNat_ocAdd, hcast]
  split_ifs <;> omega

/-- The index adder, and every other, is correct modulo 2^n - 1 (rule R11). -/
theorem dvd_ocVal_ocAdd_sub {n : Nat} (hn : 0 < n) (x y : BitVec n) :
    (2 ^ n - 1 : Int) ∣ ocVal (ocAdd x y) - (ocVal x + ocVal y) := by
  rw [ocVal_ocAdd hn]
  split_ifs
  · simp
  · exact ⟨-1, by ring⟩
  · exact ⟨1, by ring⟩

/-- Negative zero comes only from two negative zeros (rule R11). -/
theorem ocAdd_eq_allOnes_iff {n : Nat} (hn : 0 < n) (x y : BitVec n) :
    ocAdd x y = BitVec.allOnes n ↔ x = BitVec.allOnes n ∧ y = BitVec.allOnes n := by
  have hx := x.isLt
  have hy := y.isLt
  have hone : 1 < 2 ^ n := Nat.one_lt_two_pow hn.ne'
  simp only [eq_allOnes_iff_toNat, toNat_ocAdd]
  split_ifs <;> omega

/-- The overflow signal says that the sum does not fit in 48 bits (rule R12). -/
theorem ovfAdd_iff (x y : Word) : ovfAdd x y = true ↔ 2 ^ 47 ≤ (ocVal x + ocVal y).natAbs := by
  have hx := x.isLt
  have hy := y.isLt
  simp only [ovfAdd, Bool.and_eq_true, beq_iff_eq, bne_iff_ne, ne_eq, BitVec.msb_eq_decide, decide_eq_decide,
    toNat_ocAdd, ocVal_eq_toNat]
  split_ifs <;> omega

theorem ovfAdd_eq_false_iff (x y : Word) : ovfAdd x y = false ↔ (ocVal x + ocVal y).natAbs < 2 ^ 47 := by
  rw [← Bool.not_eq_true, ovfAdd_iff, not_le]

/-- Settles O22: the sum over the integers (`ocVal_ocAdd`), read through the overflow signal (`ovfAdd_iff`). -/
theorem adderMeaning : Obligations.AdderMeaning := by
  refine ⟨fun x y => ⟨ovfAdd_iff x y, fun hfits => ?_, fun hovf => ?_, ocAdd_eq_allOnes_iff (by decide) x y⟩,
    fun x y => dvd_ocVal_ocAdd_sub (by decide) x y⟩
  · rw [ocVal_ocAdd (by decide), if_pos ((ovfAdd_eq_false_iff x y).mp hfits)]
  · rw [ocVal_ocAdd (by decide), if_neg (not_lt.mpr ((ovfAdd_iff x y).mp hovf))]

/-! ## A step of the computer -/

/-- Once the program step is read and the computer still runs, its upper instruction is the one decoded from U
(rule R14). -/
theorem runInstruction_read (s t : State) (hh : s.h = .upper) (hf : fetch s = .next t) (hr : t.isRunning = true)
    (hq : t.Quiet) : runInstruction s = runDecoded .upper (decodeUpper t.u) (returnTrigger t) := by
  simp only [runInstruction, hh, hf, andThen_next, hr, if_true, gap_quiet t hq]

/-- The upper instruction of a step that is read without a fault (rule R14, rule R461). -/
theorem runInstruction_upper (s : State) (i : Instr) (hq : s.Quiet) (hr : s.run = .running) (hh : s.h = .upper)
    (hp : s.present s.p = true) (ha : s.allowed s.p = true) (hg : badParity (s.cell s.p) = false)
    (hd : decodeUpper (s.word s.p) = .ok i) :
    runInstruction s = andThen (exec i (returnTrigger { s with aug := none, u := s.word s.p })) (finish .upper) := by
  rw [runInstruction_read s _ hh (fetch_good s hp ha hg) (by simp [State.isRunning, hr]) hq, hd]
  rfl

/-- The lower instruction is decoded from U as it is, with no reading (rule R14). -/
theorem runInstruction_lower (s : State) (i : Instr) (hh : s.h = .lower) (hd : decodeLower s.u = .ok i) :
    runInstruction s = andThen (exec i s) (finish .lower) := by
  simp only [runInstruction, hh, hd, runDecoded]

/-- The state as the end of an instruction in that half begins with it: AUG's designators are gone after a lower one
(rule R40). -/
def State.augEnded (s : State) (half : Half) : State := { s with aug := if half = .lower then none else s.aug }

/-- The end of an instruction, in one equation (rule R14, rule R440; file 93, U15). -/
theorem finish_eq (half : Half) (s : State) :
    finish half s =
      if s.ret.isSome && !s.unfinished then .refused .undefinedReturn
      else if s.isRunning then andThen (gap (s.augEnded half)) sample
      else .next (s.augEnded half) := by
  cases half <;> rfl

theorem unfinished_not_running (s : State) (h : s.unfinished = true) : s.isRunning = false := by
  have hne : s.run ≠ .running := fun hr => by simp [State.unfinished, hr] at h
  simp [State.isRunning, hne]

/-- A computer that has stopped outside a return word is not sampled (rule R440 (e)). -/
theorem finish_stopped (half : Half) (s : State) (hn : s.ret = none) (hr : s.run ≠ .running) :
    finish half s = .next (s.augEnded half) := by
  simp [finish_eq, hn, State.isRunning, hr]

/-- An instruction that has not ended leaves a return under way. -/
theorem finish_unfinished (half : Half) (s : State) (h : s.unfinished = true) :
    finish half s = .next (s.augEnded half) := by
  simp [finish_eq, h, unfinished_not_running s h]

/-- A return word that ends without its jump is refused (file 93, U15). -/
theorem finish_return (half : Half) (s : State) (hret : s.ret ≠ none) (h : s.unfinished = false) :
    finish half s = .refused .undefinedReturn := by
  simp [finish_eq, h, Option.isSome_iff_ne_none.mpr hret]

theorem finish_sampled (half : Half) (s : State) (hn : s.ret = none) (hr : s.run = .running) (hq : s.Quiet) :
    finish half s = sample (s.augEnded half) := by
  rw [finish_running half s hq hr hn]
  cases half <;> rfl

/-- Settles O5: the step is the computer's turn, taken apart by the half that is next, and its end by whether a return
is under way and the computer still runs. -/
theorem stepRunsInstruction : Obligations.StepRunsInstruction := by
  refine ⟨?upper, ?lower, fun s half => ⟨finish_sampled half s, finish_stopped half s, finish_unfinished half s,
    finish_return half s⟩⟩
  case upper =>
    rintro s i ⟨hi, hq⟩ hr hh hp ha hg hd
    rw [step_computer s hi, act_running s hr, runInstruction_upper s i hq hr hh hp ha hg hd]
  case lower =>
    rintro s i ⟨hi, -⟩ hr hh hd
    rw [step_computer s hi, act_running s hr, runInstruction_lower s i hh hd]

end Sys2Proof.Machine
end

section
/-! What writes what: the registers that each instruction, and each step, can write, and the statements of the spec's
state (rule R20, rule R21, rule R23, rule R30, rule R39, rule R44). One lemma for each shared operation says what it
writes; an instruction writes what the operations it is made of do. -/

namespace Sys2Proof.Machine

/-! ## What is written -/

/-- The registers that a part of a step may write: A, Q, the index registers, the two bounds registers; and whether it
may clear a flip-flop of the Interrupt register. -/
structure WriteSet where
  a : Bool
  q : Bool
  b : Bool
  bl : Bool
  bu : Bool
  clears : Bool

/-- From s to t none of these registers outside the set was written, and no flip-flop cleared that may not be. -/
structure OnlyWrites (w : WriteSet) (s t : State) : Prop where
  a : w.a = false → t.a = s.a
  q : w.q = false → t.q = s.q
  b : w.b = false → t.b = s.b
  bl : w.bl = false → t.bl = s.bl
  bu : w.bu = false → t.bu = s.bu
  latched : w.clears = false → ∀ n, s.irLatch.getLsbD n = true → t.irLatch.getLsbD n = true

/-- If this part of a step, begun in s, goes on at all, it has written nothing outside the set. -/
def Confined (w : WriteSet) (s : State) (r : Res State) : Prop := ∀ t, r = .next t → OnlyWrites w s t

/-- Everything may be written, but the bounds registers only where the flags say so: what a step is asked to keep
(rule R30). -/
def allButBounds (bl bu : Bool) : WriteSet := ⟨true, true, true, bl, bu, true⟩

section Updates
variable {w : WriteSet} {s t r : State}

/-- An update of none of these registers. -/
theorem OnlyWrites.same (ha : t.a = s.a := by rfl) (hq : t.q = s.q := by rfl) (hb : t.b = s.b := by rfl)
    (hbl : t.bl = s.bl := by rfl) (hbu : t.bu = s.bu := by rfl) (hir : t.irLatch = s.irLatch := by rfl) :
    OnlyWrites w s t :=
  ⟨fun _ => ha, fun _ => hq, fun _ => hb, fun _ => hbl, fun _ => hbu, fun _ _ h => hir ▸ h⟩

theorem OnlyWrites.refl : OnlyWrites w s s := .same

theorem OnlyWrites.trans (h : OnlyWrites w s t) (k : OnlyWrites w t r) : OnlyWrites w s r :=
  ⟨fun e => (k.a e).trans (h.a e), fun e => (k.q e).trans (h.q e), fun e => (k.b e).trans (h.b e),
    fun e => (k.bl e).trans (h.bl e), fun e => (k.bu e).trans (h.bu e),
    fun e n hn => k.latched e n (h.latched e n hn)⟩

/-- Another agent writes none of these registers. -/
theorem AgentFrame.onlyWrites (h : AgentFrame s t) : OnlyWrites w s t :=
  ⟨fun _ => h.a, fun _ => h.q, fun _ => h.b, fun _ => h.bl, fun _ => h.bu, fun _ => h.faults⟩

/-- What is known of the bounds registers alone. -/
theorem OnlyWrites.bounds (h : OnlyWrites w s t) : OnlyWrites (allButBounds w.bl w.bu) s t :=
  ⟨nofun, nofun, nofun, h.bl, h.bu, nofun⟩

/-- Where every register but these may be written, only the bounds registers need be as they were. -/
theorem onlyWrites_allButBounds {bl bu : Bool} (hbl : t.bl = s.bl) (hbu : t.bu = s.bu) :
    OnlyWrites (allButBounds bl bu) s t :=
  ⟨nofun, nofun, nofun, fun _ => hbl, fun _ => hbu, nofun⟩

theorem onlyWrites_setRun (x : Run) : OnlyWrites w s { s with run := x } := .same

theorem onlyWrites_setA (ha : w.a = true) (x : Word) : OnlyWrites w s { s with a := x } :=
  ⟨fun h => by simp [ha] at h, fun _ => rfl, fun _ => rfl, fun _ => rfl, fun _ => rfl, fun _ _ h => h⟩

theorem onlyWrites_setQ (hq : w.q = true) (x : Word) : OnlyWrites w s { s with q := x } :=
  ⟨fun _ => rfl, fun h => by simp [hq] at h, fun _ => rfl, fun _ => rfl, fun _ => rfl, fun _ _ h => h⟩

theorem onlyWrites_setA_setQ (ha : w.a = true) (hq : w.q = true) (x y : Word) :
    OnlyWrites w s { s with a := x, q := y } :=
  (onlyWrites_setA ha x).trans (onlyWrites_setQ hq y)

theorem onlyWrites_setAQ (ha : w.a = true) (hq : w.q = true) (v : BitVec 96) : OnlyWrites w s (s.setAQ v) :=
  onlyWrites_setA_setQ ha hq _ _

theorem onlyWrites_setIndex (hb : w.b = true) (b : BitVec 3) (v : Addr) : OnlyWrites w s (s.setIndex b v) :=
  ⟨fun _ => rfl, fun _ => rfl, fun h => by simp [hb] at h, fun _ => rfl, fun _ => rfl, fun _ _ h => h⟩

theorem onlyWrites_setBl (hbl : w.bl = true) (x : BitVec 8) : OnlyWrites w s { s with bl := x } :=
  ⟨fun _ => rfl, fun _ => rfl, fun _ => rfl, fun h => by simp [hbl] at h, fun _ => rfl, fun _ _ h => h⟩

theorem onlyWrites_setBu (hbu : w.bu = true) (x : BitVec 8) : OnlyWrites w s { s with bu := x } :=
  ⟨fun _ => rfl, fun _ => rfl, fun _ => rfl, fun _ => rfl, fun h => by simp [hbu] at h, fun _ _ h => h⟩

/-- Where flip-flops of the Interrupt register may be cleared, an update of none of the other registers. -/
theorem onlyWrites_clears (hc : w.clears = true) (ha : t.a = s.a := by rfl) (hq : t.q = s.q := by rfl)
    (hb : t.b = s.b := by rfl) (hbl : t.bl = s.bl := by rfl) (hbu : t.bu = s.bu := by rfl) : OnlyWrites w s t :=
  ⟨fun _ => ha, fun _ => hq, fun _ => hb, fun _ => hbl, fun _ => hbu, fun h => by simp [hc] at h⟩

theorem onlyWrites_faultIf (c : Bool) (n : Nat) : OnlyWrites w s (s.faultIf c n) := (frame_faultIf s c n).onlyWrites

theorem onlyWrites_violation : OnlyWrites w s s.violation := onlyWrites_faultIf true 42

theorem onlyWrites_advance : OnlyWrites w s s.advance := .same

theorem onlyWrites_nextStep : OnlyWrites w s s.nextStep := .same

theorem onlyWrites_skipIf (c : Bool) : OnlyWrites w s (s.skipIf c) := by
  cases c
  · exact onlyWrites_advance
  · exact onlyWrites_nextStep

end Updates

/-! ## Sequencing -/

section Sequencing
variable {w : WriteSet} {s t : State}

theorem confined_next (h : OnlyWrites w s t) : Confined w s (.next t) := by
  rintro _ ⟨⟩
  exact h

theorem confined_refused (x : Refusal) : Confined w s (.refused x) := by rintro _ ⟨⟩

theorem confined_fault (x : Fault) : Confined w s (.fault x) := by rintro _ ⟨⟩

/-- The next instruction, the next step or a skip, with what has been written before it. -/
theorem confined_advance (h : OnlyWrites w s t) : Confined w s (.next t.advance) :=
  confined_next (h.trans onlyWrites_advance)

theorem confined_nextStep (h : OnlyWrites w s t) : Confined w s (.next t.nextStep) :=
  confined_next (h.trans onlyWrites_nextStep)

theorem confined_skipIf (c : Bool) : Confined w s (.next (s.skipIf c)) := confined_next (onlyWrites_skipIf c)

/-- A part of a step goes on from what has been written before it. -/
theorem confined_from {r : Res State} (h : OnlyWrites w s t) (k : Confined w t r) : Confined w s r :=
  fun _ hr => h.trans (k _ hr)

theorem confined_andThen {r : Res State} {f : State → Res State} (h : Confined w s r)
    (k : ∀ x, Confined w x (f x)) : Confined w s (andThen r f) := by
  intro t ht
  obtain ⟨x, hx, ht⟩ := (andThen_eq_next r f t).mp ht
  exact (h x hx).trans (k x t ht)

theorem confined_ite {c : Prop} [Decidable c] {r r' : Res State} (h : c → Confined w s r) (k : ¬c → Confined w s r') :
    Confined w s (if c then r else r') := by
  split
  · exact h ‹_›
  · exact k ‹_›

/-! ## Storage references -/

theorem confined_gap : Confined w s (gap s) := fun _ h => (frame_gap _ _ h).onlyWrites

theorem confined_withRead {a : Addr} {rest : Word → State → Res State} (h : ∀ x s, Confined w s (rest x s)) :
    Confined w s (withRead s a rest) := by
  intro t ht
  obtain ⟨-, ht⟩ := (withRead_eq_next s a rest t).mp ht
  exact (frame_noteParity s a).onlyWrites.trans (h _ _ t ht)

theorem confined_storeCell {a : Addr} {f : Cell → Cell} : Confined w s (storeCell s a f) := by
  intro t ht
  obtain ⟨-, -, rfl⟩ | ⟨-, rfl⟩ := (storeCell_eq_next s a f t).mp ht
  · exact .same
  · exact onlyWrites_violation

theorem confined_storeNext {r : Res State} (h : Confined w s r) : Confined w s (storeNext r) :=
  confined_andThen h fun _ => confined_advance .refl

/-! ## Operands -/

/-- What indirect addressing leaves as it was, whether or not it ends. -/
theorem frame_resolve (b : BitVec 3) (m : Addr) (s : State) (r : Resolved) (h : resolve b m s = .next r) :
    AgentFrame s (endState r) := by
  rw [resolve] at h
  split at h
  · exact frame_resolveFrom _ _ _ _ _ h
  · cases h
    exact .refl s

theorem confined_withResolved {b : BitVec 3} {m : Addr} {rest : BitVec 3 → Addr → State → Res State}
    (h : ∀ b m s, Confined w s (rest b m s)) : Confined w s (withResolved s b m rest) := by
  intro t ht
  obtain ⟨b', m', s', hr, ht⟩ | ⟨s', hr, rfl⟩ := withResolved_eq_next s b m rest t ht
  · exact hr.frame.onlyWrites.trans (h _ _ _ t ht)
  · exact (frame_resolve b m s _ hr).onlyWrites.trans .same

theorem confined_withEffective {b : BitVec 3} {m : Addr} {rest : Addr → State → Res State}
    (h : ∀ e s, Confined w s (rest e s)) : Confined w s (withEffective s b m rest) :=
  confined_withResolved fun _ _ _ => h _ _

theorem confined_withOperand {b : BitVec 3} {m : Addr} {rest : Word → State → Res State}
    (h : ∀ x s, Confined w s (rest x s)) : Confined w s (withOperand s b m rest) :=
  confined_withEffective fun _ _ => confined_withRead h

/-- A checked store at M, and the next instruction. -/
theorem confined_storeEffective {b : BitVec 3} {m : Addr} {f : Addr → State → Cell → Cell} :
    Confined w s (withEffective s b m fun e s => storeNext (storeCell s e (f e s))) :=
  confined_withEffective fun _ _ => confined_storeNext confined_storeCell

/-- A checked store at m, and the next instruction. -/
theorem confined_storeResolved {b : BitVec 3} {m : Addr} {f : BitVec 3 → State → Cell → Cell} :
    Confined w s (withResolved s b m fun b m s => storeNext (storeCell s m (f b s))) :=
  confined_withResolved fun _ _ _ => confined_storeNext confined_storeCell

/-! ## Jumps -/

theorem confined_loadU : Confined w s (loadU s) := by
  intro t ht
  obtain ⟨-, ⟨-, rfl⟩ | ⟨-, rfl⟩⟩ := (loadU_eq_next s t).mp ht
  · exact .same
  · exact (onlyWrites_faultIf true 46).trans .same

theorem confined_enterAt {m : Addr} {half : Half} : Confined w s (enterAt s m half) := by
  cases half
  · exact confined_next .same
  · exact confined_from .same confined_loadU

theorem confined_takeJump {m : Addr} : Confined w s (takeJump s m) := by
  rw [takeJump]
  split
  · exact confined_enterAt
  · exact confined_from .same confined_enterAt

theorem confined_jumpElse {m : Addr} {onward : State → State} (h : ∀ s, OnlyWrites w s (onward s)) :
    Confined w s (jumpElse s m onward) :=
  confined_ite (fun _ => confined_takeJump) fun _ => confined_next (onlyWrites_violation.trans (h _))

theorem confined_jump {m : Addr} : Confined w s (jump s m) := confined_jumpElse fun _ => onlyWrites_advance

theorem confined_rejectJump {m : Addr} : Confined w s (rejectJump s m) :=
  confined_jumpElse fun _ => onlyWrites_nextStep

theorem confined_enterThrough {m v : Addr} : Confined w s (enterThrough s m v) := by
  intro t ht
  obtain ⟨-, -, hf⟩ := frame_enterThrough s t m v ht
  exact hf.onlyWrites.trans .same

theorem confined_returnJump {m : Addr} : Confined w s (returnJump s m) :=
  confined_ite (fun _ => confined_enterThrough) fun _ => confined_advance onlyWrites_violation

theorem confined_jumpIf {c : Bool} {m : Addr} : Confined w s (jumpIf c s m) :=
  confined_ite (fun _ => confined_jump) fun _ => confined_advance .refl

theorem confined_returnJumpIf {c : Bool} {m : Addr} : Confined w s (returnJumpIf c s m) :=
  confined_ite (fun _ => confined_returnJump) fun _ => confined_advance .refl

theorem confined_stopJump {ret : Bool} {m : Addr} : Confined w s (stopJump ret s m) :=
  confined_ite (fun _ => confined_returnJump) fun _ => confined_jump

theorem confined_stopIf {c ret : Bool} {m : Addr} : Confined w s (stopIf c ret s m) :=
  confined_ite (fun _ => confined_next .same) fun _ => confined_stopJump

theorem confined_raiseCategoryIII : Confined w s (raiseCategoryIII s) := confined_from .same confined_enterThrough

theorem confined_raiseCategoryII {ff : BitVec 2} : Confined w s (raiseCategoryII s ff) :=
  confined_from .same confined_enterThrough

/-! ## The shared frames of a family -/

/-- A shift writes what its own part does. -/
theorem confined_withShift {b : BitVec 3} {k : Addr} {rest : Nat → State → State}
    (h : ∀ n s, OnlyWrites w s (rest n s)) : Confined w s (withShift s b k rest) :=
  confined_withEffective fun _ _ => confined_advance ((onlyWrites_faultIf _ _).trans (h _ _))

theorem onlyWrites_addToA (ha : w.a = true) (x : Word) (c : Bool) : OnlyWrites w s (addToA s x c) :=
  (onlyWrites_faultIf _ _).trans (onlyWrites_setA ha _)

theorem onlyWrites_divideQA (ha : w.a = true) (hq : w.q = true) (d : Word) : OnlyWrites w s (divideQA s d) := by
  rw [divideQA]
  split
  · exact (onlyWrites_faultIf true 2).trans ((frame_drawn _ 2).onlyWrites.trans (onlyWrites_setA_setQ ha hq _ _))
  · exact (frame_drawn s 1).onlyWrites.trans (onlyWrites_setA_setQ ha hq _ _)

theorem confined_replaceWith (ha : w.a = true) {b : BitVec 3} {m : Addr} {y : State → Word} :
    Confined w s (replaceWith s b m y) :=
  confined_withEffective fun _ _ => confined_withRead fun _ _ => confined_andThen confined_gap fun _ =>
    confined_andThen (confined_from (.trans (onlyWrites_faultIf _ 3) (onlyWrites_setA ha _)) confined_storeCell)
      fun _ => confined_advance .refl

theorem onlyWrites_floatResult (ha : w.a = true) (hq : w.q = true) (k : FpKind) (x : Word) :
    OnlyWrites w s (floatResult k x s) :=
  .trans (.trans (.trans (onlyWrites_faultIf _ 2) (onlyWrites_faultIf _ 4)) (onlyWrites_faultIf _ 5))
    (onlyWrites_setA_setQ ha hq _ _)

theorem confined_float (ha : w.a = true) (hq : w.q = true) {k : FpKind} {ff : BitVec 2} {b : BitVec 3} {m : Addr} :
    Confined w s (float k ff b m s) :=
  confined_ite
    (fun _ => confined_withOperand fun _ _ => confined_advance (onlyWrites_floatResult ha hq _ _))
    fun _ => confined_raiseCategoryII

theorem confined_searchList (hb : w.b = true) (hit : Word → State → Bool) (b : BitVec 3) (m : Addr) (n : Nat)
    (s : State) : Confined w s (searchList hit b m n s) := by
  induction n generalizing s with
  | zero => exact confined_advance .refl
  | succ n ih =>
    rw [searchList]
    refine confined_from (onlyWrites_setIndex hb b _) (confined_withRead fun x s => ?_)
    exact confined_ite (fun _ => confined_nextStep .refl) fun _ =>
      confined_ite (fun _ => confined_advance .refl) fun _ => confined_andThen confined_gap ih

theorem confined_search (hb : w.b = true) {b : BitVec 3} {m : Addr} {hit : Word → State → Bool} :
    Confined w s (search s b m hit) :=
  confined_withResolved fun _ _ _ =>
    confined_ite (fun _ => confined_withRead fun _ _ => confined_skipIf _) fun _ =>
      confined_searchList hb _ _ _ _ _

end Sequencing

/-! ## The channels -/

theorem frame_connectChannel (s : State) (x : Nat) (c : Byte12) : AgentFrame s (connectChannel s x c).2 := by
  simp only [connectChannel]
  split
  · exact .refl s
  · split
    · exact frame_setChannel _ _ _
    · exact frame_putChannel _ _ _

theorem frame_functionChannel (s : State) (x : Nat) (c : Byte12) : AgentFrame s (functionChannel s x c).2 := by
  simp only [functionChannel]
  split
  · exact .refl s
  · split
    · exact (frame_setChannel s x _).trans (frame_faultIf _ true (20 + x))
    · exact (frame_putChannel s x _).trans (frame_drawn _ 1)

theorem frame_activate (s : State) (x : Nat) (dir : Direction) (wc ad : Addr) : AgentFrame s (activate s x dir wc ad) :=
  frame_putChannel _ _ _

theorem frame_startChannel (s t : State) (x : Nat) (dir : Direction) (m : Addr) (h : startChannel s x dir m = .next t) :
    AgentFrame s t := by
  refine frame_withChannelRead s t x m _ (fun w r hr => ?_) h
  cases hr
  exact frame_activate _ _ _ _ _

section Channels
variable {w : WriteSet} {s : State}

theorem onlyWrites_clearChannel (hc : w.clears = true) (k : ClearScope) (x : Nat) :
    OnlyWrites w s (clearChannel k s x) := onlyWrites_clears hc

theorem confined_withChannel {x : BitVec 3} {rest : Nat → Channel → Res State} (h : ∀ x c, Confined w s (rest x c)) :
    Confined w s (withChannel s x rest) :=
  confined_ite (fun _ => h _ _) fun _ => confined_refused _

theorem confined_answered {r : Answer × State} {n : Addr} (h : OnlyWrites w s r.2) : Confined w s (answered r n) := by
  rw [answered]
  split
  · exact confined_nextStep h
  · exact confined_from h confined_rejectJump

/-- BEGR and BEGW write nothing but the channel. -/
theorem confined_begin {n m : Addr} {x : BitVec 3} {dir : Direction} :
    Confined w s (withChannel s x fun x ch =>
      if ch.act then rejectJump s n else andThen (startChannel s x dir m) fun s => .next s.nextStep) :=
  confined_withChannel fun _ _ => confined_ite (fun _ => confined_rejectJump) fun _ =>
    confined_andThen (fun _ h => (frame_startChannel _ _ _ _ _ h).onlyWrites)
      fun _ => confined_nextStep .refl

end Channels

/-! ## What each instruction writes -/

/-- ELB, and EUB. -/
def isElb : Instr → Bool
  | .elb _ => true
  | _ => false
def isEub : Instr → Bool
  | .eub _ => true
  | _ => false

/-- The instructions that clear flip-flops of the Interrupt register: INF and CLCH (rule R44). -/
def clearsLatch : Instr → Bool
  | .inf _ | .clch _ _ _ => true
  | _ => false

/-- What an instruction may write (rule R20, rule R21, rule R23, rule R30, rule R44). -/
def writesOf (i : Instr) : WriteSet where
  a := writesA i
  q := writesQ i
  b := writesIndex i
  bl := isElb i
  bu := isEub i
  clears := clearsLatch i

theorem onlyWrites_applyInf {w : WriteSet} (hc : w.clears = true) (o : InfOp) (s : State) :
    OnlyWrites w s (applyInf o s) := by
  cases o <;> exact onlyWrites_clears hc

/-- An instruction writes what is listed for it and no other register (rule R20, rule R21, rule R23, rule R30,
rule R44). -/
theorem exec_confined (i : Instr) (s : State) : Confined (writesOf i) s (exec i s) := by
  cases i with
  | iaq =>
    rw [exec]
    exact confined_advance (onlyWrites_setA_setQ rfl rfl _ _)
  | ati b =>
    rw [exec]
    exact confined_ite (fun _ => confined_advance (onlyWrites_setIndex rfl _ _)) fun _ => confined_refused _
  | ars b k | als b k =>
    rw [exec]
    exact confined_withShift fun _ _ => onlyWrites_setA rfl _
  | qrs b k | qls b k =>
    rw [exec]
    exact confined_withShift fun _ _ => onlyWrites_setQ rfl _
  | lrs b k | lls b k =>
    rw [exec]
    exact confined_withShift fun _ _ => onlyWrites_setAQ rfl rfl _
  | ena b y =>
    rw [exec]
    exact confined_withEffective fun _ _ => confined_advance (onlyWrites_setA rfl _)
  | enq b y =>
    rw [exec]
    exact confined_withEffective fun _ _ => confined_advance (onlyWrites_setQ rfl _)
  | ina b y =>
    rw [exec]
    exact confined_withEffective fun _ _ => confined_advance (onlyWrites_addToA rfl _ _)
  | lda b m | lac b m | sst b m | scl b m | scm b m | ssu b m | ldl b m =>
    rw [exec]
    exact confined_withOperand fun _ _ => confined_advance (onlyWrites_setA rfl _)
  | ldq b m | lqc b m =>
    rw [exec]
    exact confined_withOperand fun _ _ => confined_advance (onlyWrites_setQ rfl _)
  | add b m | sub b m | adl b m | sbl b m =>
    rw [exec]
    exact confined_withOperand fun _ _ => confined_advance (onlyWrites_addToA rfl _ _)
  | mui b m =>
    rw [exec]
    exact confined_withOperand fun _ s => confined_advance
      ((frame_drawn s 1).onlyWrites.trans (onlyWrites_setA_setQ rfl rfl _ _))
  | dvi b m =>
    rw [exec]
    exact confined_withOperand fun _ _ => confined_advance (onlyWrites_divideQA rfl rfl _)
  | fad b m | fsb b m | fmu b m | fdv b m =>
    rw [exec]
    exact confined_float rfl rfl
  | sta b m | stq b m | stl b m | sau b m | sal b m =>
    rw [exec]
    exact confined_storeEffective
  | siu b m | sil b m =>
    rw [exec]
    exact confined_storeResolved
  | sca b k =>
    rw [exec]
    exact confined_withResolved fun _ _ _ => confined_advance
      (.trans (onlyWrites_setA rfl _) (onlyWrites_setIndex rfl _ _))
  | scq b k =>
    rw [exec]
    exact confined_withResolved fun _ _ _ => confined_advance
      (.trans (onlyWrites_setAQ rfl rfl _) (onlyWrites_setIndex rfl _ _))
  | ssk b m =>
    rw [exec]
    exact confined_withOperand fun _ _ => confined_skipIf _
  | ssh b m =>
    rw [exec]
    exact confined_withEffective fun _ _ => confined_withRead fun _ _ => confined_andThen confined_gap fun _ =>
      confined_andThen confined_storeCell fun _ => confined_skipIf _
  | rad b m | rsb b m | rao b m | rso b m =>
    rw [exec]
    exact confined_replaceWith rfl
  | eni b y | ini b y =>
    rw [exec]
    exact confined_withResolved fun _ _ _ => confined_advance (onlyWrites_setIndex rfl _ _)
  | liu b m | lil b m =>
    rw [exec]
    exact confined_withResolved fun _ _ _ => confined_withRead fun _ _ =>
      confined_advance (onlyWrites_setIndex rfl _ _)
  | isk b y =>
    rw [exec]
    exact confined_withResolved fun _ _ _ => confined_ite
      (fun _ => confined_nextStep (onlyWrites_setIndex rfl _ _))
      fun _ => confined_advance (onlyWrites_setIndex rfl _ _)
  | ijp b m =>
    rw [exec]
    exact confined_withResolved fun _ _ _ => confined_ite (fun _ => confined_advance .refl)
      fun _ => confined_from (onlyWrites_setIndex rfl _ _) confined_jump
  | eqs b m | ths b m | meq b m | mth b m =>
    rw [exec]
    exact confined_search rfl
  | ajp j m | qjp j m | sj1 m | sj2 m | sj3 m =>
    rw [exec]
    exact confined_jumpIf
  | slj m =>
    rw [exec]
    exact confined_jump
  | arj j m | qrj j m | rj1 m | rj2 m | rj3 m =>
    rw [exec]
    exact confined_returnJumpIf
  | rtj m =>
    rw [exec]
    exact confined_returnJump
  | sls m | ss1 m | ss2 m | ss3 m | srj m | sr1 m | sr2 m | sr3 m =>
    rw [exec]
    exact confined_stopIf
  | ill26 r | ill27 r | ill777 r | ill747 r =>
    rw [exec]
    exact confined_raiseCategoryIII
  | undef62 r =>
    rw [exec]
    exact confined_refused _
  | inf y =>
    rw [exec, execInf]
    split
    · exact confined_advance (onlyWrites_applyInf rfl _ s)
    · exact confined_refused _
  | aug y =>
    rw [exec, execAug]
    split
    · exact confined_advance .refl
    · exact confined_withEffective fun _ _ => confined_next .same
  | cis y | cpr y =>
    rw [exec]
    exact confined_advance (onlyWrites_setA rfl _)
  | sen y =>
    rw [exec, execSen]
    split
    · exact confined_advance .refl
    · exact confined_skipIf _
    · exact confined_refused _
  | eub y =>
    rw [exec]
    exact confined_ite (fun _ => confined_raiseCategoryIII) fun _ => confined_advance (onlyWrites_setBu rfl _)
  | elb y =>
    rw [exec]
    exact confined_ite (fun _ => confined_raiseCategoryIII) fun _ => confined_advance (onlyWrites_setBl rfl _)
  | conn n x c =>
    rw [exec]
    exact confined_withChannel fun _ _ => confined_ite (fun _ => confined_rejectJump) fun _ =>
      confined_ite (fun _ => confined_refused _) fun _ => confined_answered (frame_connectChannel _ _ _).onlyWrites
  | extf n x c =>
    rw [exec]
    exact confined_withChannel fun _ _ => confined_ite (fun _ => confined_rejectJump) fun _ =>
      confined_answered (frame_functionChannel _ _ _).onlyWrites
  | begr n x m | begw n x m =>
    rw [exec]
    exact confined_begin
  | copy n x m =>
    rw [exec]
    exact confined_withChannel fun _ _ => confined_nextStep (onlyWrites_setA_setQ rfl rfl _ _)
  | clch n x m =>
    rw [exec]
    exact confined_withChannel fun _ _ => confined_nextStep (onlyWrites_clearChannel rfl _ _)
  | ccwd n x m =>
    rw [exec]
    exact confined_withChannel fun _ _ => confined_nextStep
      ((frame_setChannel s _ _).onlyWrites.trans (onlyWrites_setA rfl _))
  | ldc b v m =>
    rw [exec]
    exact confined_ite (fun _ => confined_withOperand fun _ _ => confined_nextStep (onlyWrites_setA rfl _))
      fun _ => confined_refused _
  | stc b v m =>
    rw [exec]
    exact confined_ite
      (fun _ => confined_withEffective fun _ _ => confined_withRead fun _ _ => confined_andThen confined_gap fun _ =>
        confined_andThen confined_storeCell fun _ => confined_nextStep .refl)
      fun _ => confined_refused _

/-- Settles O13, by what each instruction writes (`exec_confined`). -/
theorem registersWrittenAsListed : Obligations.RegistersWrittenAsListed := by
  intro i s t h
  have hw := exec_confined i s t h
  exact ⟨hw.a, hw.q, hw.b⟩

/-! ## The bits of the Interrupt register -/

theorem externalLine_getLsbD (s : State) (x n : Nat) (hn : n ≠ 30 + x) : (s.externalLine x).getLsbD n = false := by
  rw [State.externalLine]
  split
  · simp only [BitVec.getLsbD_shiftLeft, BitVec.getLsbD_one, Bool.and_eq_false_iff, Bool.not_eq_false',
      decide_eq_false_iff_not, decide_eq_true_eq]
    omega
  · exact BitVec.getLsbD_zero

/-- All but bits 30 to 33 are the flip-flops of the register (rule R27, rule R435). -/
theorem ir_getLsbD_latched (s : State) (n : Nat) (hn : n ∉ [30, 31, 32, 33]) :
    s.ir.getLsbD n = (s.irLatch.getLsbD n && latchedBits.getLsbD n) := by
  simp only [List.mem_cons, List.not_mem_nil, or_false, not_or] at hn
  obtain ⟨h0, h1, h2, h3⟩ := hn
  simp only [State.ir, State.externalLines, BitVec.getLsbD_or, BitVec.getLsbD_and, externalLine_getLsbD s 0 n h0,
    externalLine_getLsbD s 1 n h1, externalLine_getLsbD s 2 n h2, externalLine_getLsbD s 3 n h3, Bool.or_false]

theorem clearsLatch_eq_false (i : Instr) (hinf : isInf i = false) (hclch : ∀ r x m, i ≠ .clch r x m) :
    clearsLatch i = false := by
  cases i with
  | inf y => exact hinf
  | clch n x m => exact absurd rfl (hclch n x m)
  | _ => rfl

/-- Settles O15: a latched bit is a flip-flop (`ir_getLsbD_latched`), which no instruction but INF and CLCH clears
(`exec_confined`). -/
theorem faultBitsStick : Obligations.FaultBitsStick := by
  intro i s t n hinf hclch hn h hset
  rw [ir_getLsbD_latched s n hn, Bool.and_eq_true] at hset
  obtain ⟨hlatch, hbit⟩ := hset
  rw [ir_getLsbD_latched t n hn, Bool.and_eq_true]
  exact ⟨(exec_confined i s t h).latched (clearsLatch_eq_false i hinf hclch) n hlatch, hbit⟩

/-! ## The bounds registers in a step -/

section Sequence
variable {w : WriteSet} {s : State}

theorem confined_enterCategoryI : Confined w s (enterCategoryI s) := confined_from .same confined_enterThrough

theorem confined_sample : Confined w s (sample s) :=
  confined_ite (fun _ => confined_enterCategoryI) fun _ => confined_next .same

theorem confined_finish {half : Half} : Confined w s (finish half s) := by
  rw [finish_eq]
  exact confined_ite (fun _ => confined_refused _) fun _ => confined_ite
    (fun _ => confined_from .same (confined_andThen confined_gap fun _ => confined_sample))
    fun _ => confined_next .same

theorem onlyWrites_returnTrigger : OnlyWrites w s (returnTrigger s) := by
  obtain ⟨-, -, h⟩ | ⟨-, h⟩ | h := returnTrigger_cases s <;> rw [h] <;> exact .same

theorem confined_fetch : Confined w s (fetch s) := by
  refine confined_from (t := if s.allowed s.p then { s with aug := none } else { s with aug := none }.violation) ?_
    confined_loadU
  split
  · exact .same
  · exact .trans .same onlyWrites_violation

/-- U holds the word at P, whether its parity is good or bad (rule R461). -/
theorem fetch_u (s t : State) (h : fetch s = .next t) : t.u = s.word s.p := by
  obtain ⟨-, _, -, ⟨-, rfl⟩ | ⟨-, rfl⟩⟩ := fetch_eq_next s t h <;> rfl

end Sequence

theorem nextInstruction_upper (s : State) (hr : s.run = .running) (hh : s.h = .upper) :
    s.nextInstruction = definedCode (decodeUpper (s.word s.p)) := by
  simp [State.nextInstruction, State.isRunning, hr, hh]

theorem nextInstruction_lower (s : State) (hr : s.run = .running) (hh : s.h = .lower) :
    s.nextInstruction = definedCode (decodeLower s.u) := by
  simp [State.nextInstruction, State.isRunning, hr, hh]

/-- What is kept of the bounds registers where the instruction, if any, is the one given: what it does not write. -/
def boundsOf (o : Option Instr) : WriteSet := allButBounds (o.any isElb) (o.any isEub)

theorem runDecoded_bounds (half : Half) (d : Decoded) (s : State) :
    Confined (boundsOf (definedCode d)) s (runDecoded half d s) := by
  cases d with
  | error e => exact confined_refused _
  | ok i => exact confined_andThen (fun t ht => (exec_confined i s t ht).bounds) fun _ => confined_finish

/-- An instruction's step writes of the bounds registers what the instruction does: the word it is decoded from is that
at P before the step, whatever other agents do after its reading (rule R14, rule R74). -/
theorem runInstruction_bounds (s : State) (hr : s.run = .running) :
    Confined (boundsOf s.nextInstruction) s (runInstruction s) := by
  cases hh : s.h with
  | lower =>
    rw [nextInstruction_lower s hr hh, runInstruction, hh]
    exact runDecoded_bounds _ _ _
  | upper =>
    rw [nextInstruction_upper s hr hh, runInstruction, hh]
    intro t ht
    obtain ⟨f, hf, ht⟩ := (andThen_eq_next _ _ _).mp ht
    have hread := confined_fetch (w := boundsOf (definedCode (decodeUpper (s.word s.p)))) f hf
    split at ht
    · obtain ⟨g, hg, ht⟩ := (andThen_eq_next _ _ _).mp ht
      have hu : g.u = s.word s.p := (frame_gap f g hg).u.trans (fetch_u s f hf)
      rw [hu] at ht
      exact hread.trans ((confined_gap g hg).trans (onlyWrites_returnTrigger.trans (runDecoded_bounds _ _ _ t ht)))
    · cases ht
      exact hread

section Console
variable {bl bu : Bool} {s : State}

theorem externalMasterClear_bounds : OnlyWrites (allButBounds bl bu) s (externalMasterClear s) := by
  have h (s : State) (x : Nat) : OnlyWrites (allButBounds bl bu) s (clearInstalled s x) := by
    rw [clearInstalled]
    split
    · exact onlyWrites_clearChannel rfl _ _
    · exact .refl
  exact (h _ 0).trans ((h _ 1).trans ((h _ 2).trans (h _ 3)))

theorem internalMasterClear_bounds : OnlyWrites (allButBounds bl bu) s (internalMasterClear s) :=
  onlyWrites_allButBounds rfl rfl

theorem autoLoad_bounds : Confined (allButBounds bl bu) s (autoLoad s) := by
  refine confined_from (internalMasterClear_bounds.trans externalMasterClear_bounds) ?_
  unfold autoLoad
  generalize externalMasterClear (internalMasterClear s) = c
  dsimp only
  refine confined_ite (fun _ => confined_ite (fun _ => confined_refused _) fun _ => confined_next ?_)
    fun _ => confined_refused _
  exact .trans (AgentFrame.onlyWrites ((frame_connectChannel _ _ _).trans ((frame_functionChannel _ _ _).trans
    (frame_activate _ _ _ _ _)))) (onlyWrites_setRun _)

theorem autoLoadEntry_bounds : Confined (allButBounds bl bu) s (autoLoadEntry s) := by
  simp only [autoLoadEntry]
  split
  · exact confined_next .same
  · exact confined_from .same confined_enterThrough

theorem go_bounds : Confined (allButBounds bl bu) s (go s) := by
  have hoff (off : Bool) (t : State) : OnlyWrites (allButBounds bl bu) t (stopIfOff off t) := by
    cases off <;> exact .same
  unfold go
  cases s.run with
  | stopped why =>
    cases why with
    | sls ret m off =>
      exact confined_andThen (confined_from .same (confined_andThen confined_stopJump fun _ => confined_finish))
        fun _ => confined_next (hoff _ _)
    | instructionParity =>
      refine confined_ite (fun _ => confined_from .same confined_enterCategoryI) fun _ => ?_
      cases s.h
      · exact confined_next .same
      · exact confined_from .same confined_loadU
    | _ => exact confined_next .refl
  | _ => exact confined_next .refl

theorem systemActiveSwitch_bounds (on : Bool) : OnlyWrites (allButBounds bl bu) s (systemActiveSwitch s on) := by
  rw [systemActiveSwitch]
  split
  · exact .refl
  · split
    · exact .trans .same (internalMasterClear_bounds.trans externalMasterClear_bounds)
    · exact .same

theorem confined_operate {w : WriteSet} {r : Res State} (h : Confined w s r) : Confined w s (operate s r) :=
  confined_ite (fun _ => h) fun _ => confined_next .refl

/-- No action of another agent writes the bounds registers, the master clears among them (rule R30). -/
theorem deliver_bounds (e : Event) : Confined (allButBounds bl bu) s (deliver e s) := by
  cases e with
  | go => exact confined_operate go_bounds
  | restart =>
    exact confined_operate (confined_from (externalMasterClear_bounds.trans .same) confined_enterThrough)
  | autoLoad => exact confined_operate autoLoad_bounds
  | emergencyOff => exact confined_fault _
  | internalMasterClear => exact confined_operate (confined_next internalMasterClear_bounds)
  | externalMasterClear => exact confined_operate (confined_next externalMasterClear_bounds)
  | systemActive on => exact confined_next (systemActiveSwitch_bounds on)
  | maintenanceMode on => exact confined_next .same
  | autoLoadSwitches x c f => exact confined_operate (confined_next .same)
  | manualStart a => exact confined_operate (confined_next .same)
  | _ =>
    rw [deliver]
    exact fun t h => (frame_agentEvent _ s t h).onlyWrites

end Console

/-- The computer's own action writes of the bounds registers what its next instruction does. -/
theorem act_bounds (s : State) : Confined (boundsOf s.nextInstruction) s (act s) := by
  rw [act]
  split
  · exact runInstruction_bounds s ‹_›
  · exact autoLoadEntry_bounds
  all_goals exact confined_next .refl

/-- So does a step, in which another agent may act instead (rule R30, rule R74). -/
theorem step_bounds (s : State) : Confined (boundsOf s.nextInstruction) s (step s) := by
  match hin : s.inputs with
  | [] =>
    rw [step_computer s hin]
    exact act_bounds s
  | (0, e) :: rest =>
    rw [step_agent s e rest hin]
    exact confined_from .same (deliver_bounds e)
  | (n + 1, e) :: rest =>
    rw [step_waiting s n e rest hin]
    exact confined_from .same (act_bounds { s with inputs := (n, e) :: rest })

theorem isElb_iff (i : Instr) : isElb i = true ↔ ∃ y, i = .elb y := by
  cases i <;> simp [isElb]

theorem isEub_iff (i : Instr) : isEub i = true ↔ ∃ y, i = .eub y := by
  cases i <;> simp [isEub]

/-- An instruction of another kind, or none, is none of this kind. -/
theorem any_eq_false_of_ne {α : Type} {p : Instr → Bool} {f : α → Instr} (hp : ∀ i, p i = true ↔ ∃ y, i = f y)
    {o : Option Instr} (h : ∀ y, o ≠ some (f y)) : o.any p = false := by
  cases o with
  | none => rfl
  | some i =>
    rw [Option.any_some, ← Bool.not_eq_true, hp]
    rintro ⟨y, rfl⟩
    exact h y rfl

/-- Settles O12: of a step by what its instruction writes (`step_bounds`), of another agent's action by
`deliver_bounds`. -/
theorem onlyEnterBoundsWriteBounds : Obligations.OnlyEnterBoundsWriteBounds := by
  refine ⟨fun s t h => ⟨fun hne => ?elb, fun hne => ?eub⟩, fun e s t h => ?agent⟩
  case elb =>
    exact (step_bounds s t h).bl (any_eq_false_of_ne isElb_iff hne)
  case eub =>
    exact (step_bounds s t h).bu (any_eq_false_of_ne isEub_iff hne)
  case agent =>
    have hw := deliver_bounds (bl := false) (bu := false) e t h
    exact ⟨hw.bl rfl, hw.bu rfl⟩

/-! ## The computer at rest -/

/-- Settles O6: it is the computer's turn, and a computer that is stopped, hung or loading has no action. -/
theorem stoppedComputerStays : Obligations.StoppedComputerStays := by
  intro s hin hr hl
  rw [step_computer s hin, act_idle s hr hl]

/-! ## The index registers -/

theorem designator_cases (b : BitVec 3) :
    b = 0 ∨ b = 1 ∨ b = 2 ∨ b = 3 ∨ b = 4 ∨ b = 5 ∨ b = 6 ∨ b = 7 := by
  revert b
  decide

theorem IndexRegs.get_set_same (r : IndexRegs) (b : BitVec 3) (v : Addr) (h0 : b ≠ 0) (h7 : b ≠ 7) :
    (r.set b v).get b = v := by
  rcases designator_cases b with rfl | rfl | rfl | rfl | rfl | rfl | rfl | rfl
  exacts [absurd rfl h0, rfl, rfl, rfl, rfl, rfl, rfl, absurd rfl h7]

theorem IndexRegs.get_set_other (r : IndexRegs) (b c : BitVec 3) (v : Addr) (h : c ≠ b) :
    (r.set b v).get c = r.get c := by
  have hor : c = b ∨ (r.set b v).get c = r.get c := by
    rcases designator_cases b with rfl | rfl | rfl | rfl | rfl | rfl | rfl | rfl <;>
      rcases designator_cases c with rfl | rfl | rfl | rfl | rfl | rfl | rfl | rfl <;>
      simp [IndexRegs.get, IndexRegs.set]
  exact hor.resolve_left h

theorem modified_of_ne_zero (s : State) (b : BitVec 3) (m : Addr) (h : b ≠ 0) : modified s b m = ocAdd m (s.index b) :=
  if_neg h

/-- Settles O20: the registers by the designators one at a time, the addressing by `resolve_direct`. -/
theorem indexDesignators : Obligations.IndexDesignators := by
  refine ⟨fun r b c v => ⟨?_, r.get_set_same b v, r.get_set_other b c v⟩, resolve_direct,
    fun s b m => ⟨if_pos rfl, modified_of_ne_zero s b m⟩⟩
  rintro (rfl | rfl)
  · exact ⟨r.get_zero, r.set_zero v⟩
  · exact ⟨r.get_seven, r.set_seven v⟩

end Sys2Proof.Machine
end

section
/-! What every step keeps, and what an instruction leaves of storage: the invariant of the state (rule R27, rule R28,
rule R60, rule R319, rule R320, rule R446) and the frames of storage (rule R75). One relation between the states before
and after a part of a step says both (`Keeps`), and one lemma for each shared operation says that it holds. -/

namespace Sys2Proof.Machine

/-! ## Ones only in assigned positions -/

/-- A register has ones only in the positions of a mask exactly when each of its ones is one of the mask's. -/
theorem and_not_eq_zero_iff {n : Nat} (w m : BitVec n) :
    w &&& ~~~m = 0 ↔ ∀ i, w.getLsbD i = true → m.getLsbD i = true := by
  constructor
  · intro h i hi
    have hlt : i < n := BitVec.lt_of_getLsbD hi
    have hbit := congrArg (BitVec.getLsbD · i) h
    simpa [hi, hlt] using hbit
  · intro h
    refine BitVec.eq_of_getLsbD_eq fun i hlt => ?_
    cases hi : w.getLsbD i
    · simp [hi]
    · simp [hi, h i hi]

theorem setBit_getLsbD (w : Word) (n i : Nat) (h : (setBit w n).getLsbD i = true) : w.getLsbD i = true ∨ i = n := by
  simp only [setBit, BitVec.getLsbD_or, BitVec.getLsbD_shiftLeft, BitVec.getLsbD_one, Bool.or_eq_true,
    Bool.and_eq_true, Bool.not_eq_true', decide_eq_true_eq, decide_eq_false_iff_not] at h
  exact h.imp_right fun h => by omega

/-- Setting an assigned bit leaves ones only in assigned positions. -/
theorem setBit_within {w m : Word} {n : Nat} (h : w &&& ~~~m = 0) (hn : m.getLsbD n = true) :
    setBit w n &&& ~~~m = 0 := by
  rw [and_not_eq_zero_iff] at h ⊢
  intro i hi
  obtain hi | rfl := setBit_getLsbD w n i hi
  · exact h i hi
  · exact hn

/-- So does clearing any bits. -/
theorem and_within {w m : Word} (x : Word) (h : w &&& ~~~m = 0) : w &&& x &&& ~~~m = 0 := by
  rw [and_not_eq_zero_iff] at h ⊢
  intro i hi
  rw [BitVec.getLsbD_and, Bool.and_eq_true] at hi
  exact h i hi.1

theorem clearBit_within {w m : Word} (n : Nat) (h : w &&& ~~~m = 0) : clearBit w n &&& ~~~m = 0 := and_within _ h

theorem putBit_within {w m : Word} {n : Nat} (b : Bool) (h : w &&& ~~~m = 0) (hn : m.getLsbD n = true) :
    putBit w n b &&& ~~~m = 0 := by
  cases b
  · exact clearBit_within n h
  · exact setBit_within h hn

/-- The inactive and the I/O Parity Error bits of the four channels are flip-flops (rule R27). -/
theorem latchedBits_inactive : ∀ x < 4, latchedBits.getLsbD (10 + x) = true := by decide
theorem latchedBits_ioParity : ∀ x < 4, latchedBits.getLsbD (20 + x) = true := by decide

theorem nchan_le_four (p : Params) : p.nchan ≤ 4 := p.extraChannels.isLt

/-! ## The channels' word buffers -/

theorem Channel.wf_iff (c : Channel) : c.wf = true ↔ c.asm.length < 4 ∧ c.out.length ≤ 4 := by
  simp [Channel.wf]

theorem Channel.wf_asm (c : Channel) (h : c.wf = true) : c.asm.length < 4 := (c.wf_iff.mp h).1

theorem Channel.wf_out (c : Channel) (h : c.wf = true) : c.out.length ≤ 4 := (c.wf_iff.mp h).2

theorem Channels.get_set_cases (cs : Channels) (x y : Nat) (c : Channel) :
    (cs.set x c).get y = c ∨ (cs.set x c).get y = cs.get y := by
  match x, y with
  | 0, 0 | 0, 1 | 0, 2 | 0, _ + 3 | 1, 0 | 1, 1 | 1, 2 | 1, _ + 3 | 2, 0 | 2, 1 | 2, 2 | 2, _ + 3
  | _ + 3, 0 | _ + 3, 1 | _ + 3, 2 | _ + 3, _ + 3 => simp [Channels.set, Channels.get]

/-- What equipments share with another channel is no part of its word buffers. -/
theorem Channels.share_get_wf (cs : Channels) (x y : Nat) : ((cs.share x).get y).wf = (cs.get y).wf := by
  have h (z : Nat) (c : Channel) : (if z = x then c else c.follow z (cs.get x).equips).wf = c.wf := by
    split <;> rfl
  match y with
  | 0 => exact h 0 _
  | 1 => exact h 1 _
  | 2 => exact h 2 _
  | _ + 3 => exact h 3 _

/-- The later of two writes of a channel is the one that counts. -/
theorem Channels.set_set (cs : Channels) (x : Nat) (c d : Channel) : (cs.set x c).set x d = cs.set x d := by
  match x with
  | 0 | 1 | 2 => rfl
  | _ + 3 => rfl

/-! ## The invariant, but for a return under way -/

/-- The part of the invariant that holds inside an instruction too: storage canonical, the interrupt registers within
their assigned bits, the channels' buffers within a word. -/
structure State.Sound (s : State) : Prop where
  memory : s.mem.wf = true
  interrupt : s.irLatch &&& ~~~latchedBits = 0
  mask : s.im &&& ~~~maskBits = 0
  channel : ∀ x, (s.channel x).wf = true

/-- A return is under way only in an instruction that has not ended (rule R446, rule R452). -/
def State.Settled (s : State) : Prop := s.ret.isSome = true → s.unfinished = true

theorem State.inv_iff (s : State) : s.Inv ↔ s.Sound ∧ s.Settled := by
  constructor
  · rintro ⟨hmem, hir, him, h0, h1, h2, h3, hret⟩
    refine ⟨⟨hmem, hir, him, fun x => ?_⟩, hret⟩
    match x with
    | 0 => exact h0
    | 1 => exact h1
    | 2 => exact h2
    | _ + 3 => exact h3
  · rintro ⟨⟨hmem, hir, him, hch⟩, hret⟩
    exact ⟨hmem, hir, him, hch 0, hch 1, hch 2, hch 3, hret⟩

/-! ## What a part of a step keeps -/

/-- From s to t a sound state stays sound; and, where no other agent acts, none does in what follows, and every word of
storage outside w reads as before. -/
structure Keeps (w : Addr → Prop) (s t : State) : Prop where
  sound : s.Sound → t.Sound
  quiet : s.Quiet → t.Quiet
  cells : s.Quiet → ∀ a, ¬w a → t.cell a = s.cell a

/-- If this part of a step, begun in s, goes on at all, it has kept all that. -/
def Keeping (w : Addr → Prop) (s : State) (r : Res State) : Prop := ∀ t, r = .next t → Keeps w s t

/-- All of storage: what a part of a step may write of which only the invariant is asked. -/
def anyWord (_ : Addr) : Prop := True

section Updates
variable {w : Addr → Prop} {s t r : State}

theorem Keeps.trans (h : Keeps w s t) (k : Keeps w t r) : Keeps w s r where
  sound hs := k.sound (h.sound hs)
  quiet hq := k.quiet (h.quiet hq)
  cells hq a ha := (k.cells (h.quiet hq) a ha).trans (h.cells hq a ha)

/-- An update of the registers that says what becomes of the interrupt registers and the channels. -/
theorem keeps_update (hir : s.irLatch &&& ~~~latchedBits = 0 → t.irLatch &&& ~~~latchedBits = 0)
    (him : s.im &&& ~~~maskBits = 0 → t.im &&& ~~~maskBits = 0)
    (hch : (∀ x, (s.channel x).wf = true) → ∀ x, (t.channel x).wf = true)
    (hmem : t.mem = s.mem := by rfl) (hbt : t.between = s.between := by rfl) : Keeps w s t where
  sound hs := ⟨hmem ▸ hs.memory, hir hs.interrupt, him hs.mask, hch hs.channel⟩
  quiet hq := hbt.trans hq
  cells _ a _ := congrArg (Memory.read · a.toNat) hmem

/-- An update of none of these. -/
theorem Keeps.same (hir : t.irLatch = s.irLatch := by rfl) (him : t.im = s.im := by rfl)
    (hch : t.channels = s.channels := by rfl) (hmem : t.mem = s.mem := by rfl)
    (hbt : t.between = s.between := by rfl) : Keeps w s t :=
  keeps_update (hir ▸ id) (him ▸ id) (fun h x => by rw [State.channel, hch]; exact h x) hmem hbt

theorem Keeps.refl : Keeps w s s := .same

/-- An update of the Interrupt register that keeps to its flip-flops. -/
theorem keeps_setLatch {x : Word} (h : s.irLatch &&& ~~~latchedBits = 0 → x &&& ~~~latchedBits = 0) :
    Keeps w s { s with irLatch := x } := keeps_update h id id

/-- An update of the Interrupt Mask register that keeps to its assigned bits. -/
theorem keeps_setMask {x : Word} (h : s.im &&& ~~~maskBits = 0 → x &&& ~~~maskBits = 0) :
    Keeps w s { s with im := x } := keeps_update id h id

theorem keeps_faultIf (c : Bool) {n : Nat} (hn : latchedBits.getLsbD n = true) : Keeps w s (s.faultIf c n) := by
  refine keeps_setLatch fun h => ?_
  split
  · exact setBit_within h hn
  · exact h

theorem keeps_fault {n : Nat} (hn : latchedBits.getLsbD n = true) : Keeps w s (s.fault n) := keeps_faultIf true hn

theorem keeps_noteParity (a : Addr) : Keeps w s (s.noteParity a) := keeps_faultIf _ (by decide)

theorem keeps_violation : Keeps w s s.violation := keeps_fault (by decide)

/-- A word that may be written is. -/
theorem keeps_setCell {a : Addr} (ha : w a) (c : Cell) : Keeps w s (s.setCell a c) where
  sound hs := ⟨s.setCell_wf a c hs.memory, hs.interrupt, hs.mask, hs.channel⟩
  quiet hq := hq
  cells _ x hx := s.setCell_cell_other a x c fun h => hx (h ▸ ha)

/-- A channel whose buffers stay within a word. -/
theorem keeps_setChannel {x : Nat} {c : Channel} (h : (s.channel x).wf = true → c.wf = true) :
    Keeps w s (s.setChannel x c) := by
  refine keeps_update id id fun hch y => ?_
  obtain e | e := s.channels.get_set_cases x y c
  · exact (congrArg Channel.wf e).trans (h (hch x))
  · exact (congrArg Channel.wf e).trans (hch y)

theorem keeps_putChannel {x : Nat} {c : Channel} (h : (s.channel x).wf = true → c.wf = true) :
    Keeps w s (s.putChannel x c) := by
  refine .trans (keeps_setChannel h) (keeps_update id id fun hch y => ?_)
  exact (Channels.share_get_wf _ x y).trans (hch y)

theorem keeps_setEquips (x : Nat) (es : List Equipment) : Keeps w s (s.setEquips x es) := keeps_putChannel id

theorem keeps_skipIf (c : Bool) : Keeps w s (s.skipIf c) := by
  cases c <;> exact .same

end Updates

/-! ## Sequencing -/

section Sequencing
variable {w : Addr → Prop} {s t : State}

theorem keeping_next (h : Keeps w s t) : Keeping w s (.next t) := by
  rintro _ ⟨⟩
  exact h

theorem keeping_refused (x : Refusal) : Keeping w s (.refused x) := by rintro _ ⟨⟩

theorem keeping_fault (x : Fault) : Keeping w s (.fault x) := by rintro _ ⟨⟩

/-- The next instruction, the next step or a skip, with what has been done before it. -/
theorem keeping_advance (h : Keeps w s t) : Keeping w s (.next t.advance) := keeping_next (h.trans .same)

theorem keeping_nextStep (h : Keeps w s t) : Keeping w s (.next t.nextStep) := keeping_next (h.trans .same)

theorem keeping_from {r : Res State} (h : Keeps w s t) (k : Keeping w t r) : Keeping w s r :=
  fun _ hr => h.trans (k _ hr)

theorem keeping_andThen {r : Res State} {f : State → Res State} (h : Keeping w s r) (k : ∀ x, Keeping w x (f x)) :
    Keeping w s (andThen r f) := by
  intro t ht
  obtain ⟨x, hx, ht⟩ := (andThen_eq_next r f t).mp ht
  exact (h x hx).trans (k x t ht)

theorem keeping_ite {c : Prop} [Decidable c] {r r' : Res State} (h : c → Keeping w s r) (k : ¬c → Keeping w s r') :
    Keeping w s (if c then r else r') := by
  split
  · exact h ‹_›
  · exact k ‹_›

theorem keeping_operate {r : Res State} (h : Keeping w s r) : Keeping w s (operate s r) :=
  keeping_ite (fun _ => h) fun _ => keeping_next .refl

end Sequencing

/-! ## The other agents -/

section Agents
variable {w : Addr → Prop} {s : State} {x : Nat}

theorem keeping_withChannelRead (hx : x < 4) {a : Addr} {rest : Word → State → Res State}
    (h : ∀ v, Keeping w ((s.noteParity a).faultIf (badParity (s.cell a)) (20 + x))
      (rest v ((s.noteParity a).faultIf (badParity (s.cell a)) (20 + x)))) :
    Keeping w s (withChannelRead s x a rest) :=
  keeping_ite
    (fun _ => keeping_from ((keeps_noteParity a).trans (keeps_faultIf _ (latchedBits_ioParity x hx))) (h _))
    fun _ => keeping_refused _

theorem keeps_endOperation (hx : x < 4) : Keeps w s (endOperation s x) := by
  refine .trans (keeps_putChannel fun h => ?_)
    ((keeps_faultIf (s.im.getLsbD (10 + x) || s.params.latchUnmasked) (latchedBits_inactive x hx)).trans .same)
  simp [Channel.wf]

/-- An input word is stored, and no byte of it is left in its channel, whatever was assembled there before. -/
theorem keeping_storeInput (hx : x < 4) {c : Channel} (hc : (s.channel x).wf = true → c.out.length ≤ 4) (f : Bool)
    (v : Word) : Keeping anyWord s (storeInput ((s.setChannel x c).faultIf f (20 + x)) x v) := by
  have hwf (d : Channel) (hasm : d.asm = []) (hout : d.out = c.out) :
      Keeps anyWord s ((((s.setChannel x c).faultIf f (20 + x)).setCell c.ad (cellOf v)).setChannel x d) := by
    have heq : (((s.setChannel x c).faultIf f (20 + x)).setCell c.ad (cellOf v)).setChannel x d =
        ((s.faultIf f (20 + x)).setCell c.ad (cellOf v)).setChannel x d := by
      simp [State.setChannel, State.setCell, State.faultIf, Channels.set_set]
    rw [heq]
    refine .trans (keeps_faultIf f (latchedBits_ioParity x hx)) (.trans (keeps_setCell trivial _)
      (keeps_setChannel fun h => ?_))
    rw [Channel.wf_iff, hasm, hout]
    exact ⟨by decide, hc h⟩
  rw [storeInput, State.faultIf_channel, State.setChannel_channel_same]
  exact keeping_ite (fun _ => keeping_next (hwf _ rfl rfl)) fun _ => keeping_refused _

theorem keeping_inputByte (hx : x < 4) (b : Byte12) : Keeping anyWord s (inputByte s x b) := by
  unfold inputByte
  dsimp only
  refine keeping_ite (fun _ => keeping_ite (fun _ => keeping_next (keeps_endOperation hx)) fun _ =>
    keeping_ite (fun hfew => keeping_next ?few) fun _ => ?word) fun _ => keeping_next .refl
  case few =>
    refine .trans (keeps_setChannel fun h => ?_) (keeps_faultIf _ (latchedBits_ioParity x hx))
    exact (Channel.wf_iff _).mpr ⟨hfew, (s.channel x).wf_out h⟩
  case word =>
    refine keeping_andThen (keeping_storeInput hx ?_ _ _) fun r => ?_
    · exact (s.channel x).wf_out
    split
    · exact keeping_next (keeps_endOperation hx)
    · exact keeping_next .refl

/-- The same word stored as it stands, where no byte has been put aside in the channel first. -/
theorem keeping_storeInput_same (v : Word) : Keeping anyWord s (storeInput s x v) := by
  refine keeping_ite (fun _ => keeping_next (.trans (keeps_setCell trivial _) (keeps_setChannel fun h => ?_)))
    fun _ => keeping_refused _
  exact (Channel.wf_iff _).mpr ⟨Nat.succ_pos 3, (s.channel x).wf_out h⟩

theorem keeping_endOfRecord (hx : x < 4) : Keeping anyWord s (endOfRecord s x) := by
  unfold endOfRecord
  dsimp only
  have hdrawn : Keeps anyWord s (s.drawn 2) := .same
  refine keeping_ite (fun _ => keeping_ite (fun _ => keeping_next (keeps_endOperation hx)) fun _ =>
    keeping_ite (fun _ => keeping_next (hdrawn.trans (keeps_endOperation hx))) fun _ =>
    keeping_andThen (keeping_from hdrawn (keeping_storeInput_same _)) fun _ =>
    keeping_next (keeps_endOperation hx)) fun _ => keeping_next .refl

theorem keeping_channelCycle (hx : x < 4) : Keeping w s (channelCycle s x) := by
  unfold channelCycle
  dsimp only
  refine keeping_ite (fun _ => keeping_ite (fun _ => keeping_next (keeps_endOperation hx)) fun _ =>
    keeping_ite (fun _ => keeping_withChannelRead hx fun v => keeping_next (keeps_setChannel fun h => ?_))
      fun _ => keeping_next .refl) fun _ => keeping_next .refl
  exact (Channel.wf_iff _).mpr ⟨(s.channel x).wf_asm h, Nat.le_refl 4⟩

theorem keeping_acceptByte (hx : x < 4) (bad : Bool) : Keeping w s (acceptByte s x bad) := by
  unfold acceptByte
  dsimp only
  split
  · exact keeping_next .refl
  · next b rest hout =>
    have hsent (es : List Equipment) : Keeps w s
        ((s.putChannel x { s.channel x with out := rest, equips := es }).faultIf bad (20 + x)) := by
      refine .trans (keeps_putChannel fun h => ?_) (keeps_faultIf bad (latchedBits_ioParity x hx))
      have hlen : (s.channel x).out.length ≤ 4 := (s.channel x).wf_out h
      rw [hout] at hlen
      exact (Channel.wf_iff _).mpr ⟨(s.channel x).wf_asm h, Nat.le_of_succ_le hlen⟩
    refine keeping_ite (fun _ => keeping_next ?_) fun _ => keeping_next .refl
    split
    · exact (hsent _).trans (keeps_endOperation hx)
    · exact hsent _

theorem keeping_receive (hx : x < 4) (l : List Signal) (s : State) : Keeping anyWord s (receive x l s) := by
  induction l generalizing s with
  | nil => exact keeping_next .refl
  | cons g l ih =>
    cases g with
    | data b => exact keeping_andThen (keeping_inputByte hx b) ih
    | endOfRecord => exact keeping_andThen (keeping_endOfRecord hx) ih

theorem keeping_equipmentEvent (hx : x < 4) (i : Nat) (e : Happening) :
    Keeping anyWord s (equipmentEvent s x i e) := by
  unfold equipmentEvent
  dsimp only
  split
  · exact keeping_next .refl
  · exact keeping_from (.trans (keeps_setEquips _ _) .same) (keeping_receive hx _ _)

theorem keeping_endOfRecordSwitch : Keeping anyWord s (endOfRecordSwitch s) := by
  rw [endOfRecordSwitch]
  split
  · next x hfind =>
    have hx : x < s.params.nchan := List.mem_range.mp (List.mem_of_find?_eq_some hfind)
    exact keeping_endOfRecord (hx.trans_le (nchan_le_four _))
  · exact keeping_next .refl

/-- An action of another agent that takes effect at once. -/
theorem keeping_agentEvent (e : Event) (s : State) : Keeping anyWord s (agentEvent e s) := by
  cases e with
  | tick =>
    refine keeping_next ?_
    rw [tick]
    split
    · exact .trans (keeps_fault (n := 44) (by decide)) .same
    · exact .refl
  | manualInterrupt => exact keeping_operate (keeping_next (keeps_faultIf _ (by decide)))
  | endOfRecordSwitch => exact keeping_operate keeping_endOfRecordSwitch
  | jumpSwitch j on | stopSwitch j on => exact keeping_operate (keeping_next .same)
  | corrupt a flips =>
    exact keeping_ite (fun _ => keeping_next (keeps_setCell trivial _)) fun _ => keeping_next .refl
  | channelCycle x => exact keeping_channelCycle x.isLt
  | acceptByte x bad => exact keeping_acceptByte x.isLt bad
  | codeFault x | dataFault x => exact keeping_next (keeps_setChannel id)
  | equipment x i h =>
    exact keeping_ite (fun _ => keeping_operate (keeping_equipmentEvent x.isLt i h))
      fun _ => keeping_equipmentEvent x.isLt i h
  | equipmentNumber x i n =>
    exact keeping_ite (fun _ => keeping_operate (keeping_next (keeps_setEquips _ _)))
      fun _ => keeping_next (keeps_setEquips _ _)
  | _ => exact keeping_next .same

theorem State.Sound.setBetween (h : s.Sound) (l : List (Nat × Event)) : State.Sound { s with between := l } :=
  ⟨h.memory, h.interrupt, h.mask, h.channel⟩

/-- Whatever the other agents do in a gap, the state stays sound. -/
theorem gapFrom_sound (l : List (Nat × Event)) (s t : State) (h : gapFrom l s = .next t) (hs : s.Sound) : t.Sound := by
  induction l generalizing s with
  | nil =>
    cases h
    exact hs.setBetween _
  | cons p l ih =>
    obtain ⟨n, e⟩ := p
    cases n with
    | zero =>
      obtain ⟨x, hx, h⟩ := (andThen_eq_next _ _ t).mp h
      exact ih x h ((keeping_agentEvent e s x hx).sound hs)
    | succ n =>
      cases h
      exact hs.setBetween _

/-- With no other agent acting nothing happens in a gap (rule R74). -/
theorem keeping_gap : Keeping w s (gap s) := by
  intro t ht
  have hsame (hq : s.Quiet) : t = s := by
    rw [gap_quiet s hq] at ht
    exact (Host.Outcome.next.inj ht).symm
  exact ⟨gapFrom_sound _ s t ht, fun hq => by rwa [hsame hq], fun hq a _ => by rw [hsame hq]⟩

end Agents

/-! ## Storage references and operands -/

section Operations
variable {w : Addr → Prop} {s : State}

theorem keeping_withRead {a : Addr} {rest : Word → State → Res State} (h : ∀ x s, Keeping w s (rest x s)) :
    Keeping w s (withRead s a rest) :=
  keeping_ite (fun _ => keeping_from (keeps_noteParity a) (h _ _)) fun _ => keeping_refused _

/-- A checked write stores nothing but the word it names (rule R67, rule R68). -/
theorem keeping_storeCell {a : Addr} (ha : w a) {f : Cell → Cell} : Keeping w s (storeCell s a f) :=
  keeping_ite
    (fun _ => keeping_ite (fun _ => keeping_next (keeps_setCell ha _)) fun _ => keeping_refused _)
    fun _ => keeping_next keeps_violation

theorem keeping_storeNext {a : Addr} (ha : w a) {f : Cell → Cell} : Keeping w s (storeNext (storeCell s a f)) :=
  keeping_andThen (keeping_storeCell ha) fun _ => keeping_advance .refl

theorem keeps_resolveFrom (n : Nat) (b : BitVec 3) (m : Addr) (s : State) (r : Resolved)
    (h : resolveFrom n b m s = .next r) : Keeps w s (endState r) := by
  induction n generalizing b m s with
  | zero =>
    cases h
    exact .refl
  | succ n ih =>
    rw [resolveFrom] at h
    split at h
    · rw [withRead_eq_next, andThen_eq_next] at h
      obtain ⟨-, x, hx, h⟩ := h
      exact ((keeps_noteParity m).trans (keeping_gap x hx)).trans (ih _ _ _ h)
    · cases h
      exact .refl

/-- Indirect addressing stores nothing, whether or not it ends (rule R101). -/
theorem keeps_resolve {b : BitVec 3} {m : Addr} {r : Resolved} (h : resolve b m s = .next r) :
    Keeps w s (endState r) := by
  rw [resolve] at h
  split at h
  · exact keeps_resolveFrom _ _ _ _ _ h
  · cases h
    exact .refl

theorem keeping_withResolved {b : BitVec 3} {m : Addr} {rest : BitVec 3 → Addr → State → Res State}
    (h : ∀ b' m' s', Reaches s b m b' m' s' → Keeping w s' (rest b' m' s')) :
    Keeping w s (withResolved s b m rest) := by
  intro t ht
  obtain ⟨b', m', s', hr, ht⟩ | ⟨s', hr, rfl⟩ := withResolved_eq_next s b m rest t ht
  · exact (keeps_resolve hr).trans (h b' m' s' hr t ht)
  · exact (keeps_resolve hr).trans .same

/-- The address M that an instruction reaches (rule R102). -/
def IsEffective (s : State) (b : BitVec 3) (m a : Addr) : Prop :=
  ∃ b' m' s', Reaches s b m b' m' s' ∧ a = modified s' b' m'

/-- The address m that an instruction without modification reaches (rule R102). -/
def IsResolved (s : State) (b : BitVec 3) (m a : Addr) : Prop := ∃ b' s', Reaches s b m b' a s'

theorem keeping_withEffective {b : BitVec 3} {m : Addr} {rest : Addr → State → Res State}
    (h : ∀ e s', IsEffective s b m e → Keeping w s' (rest e s')) : Keeping w s (withEffective s b m rest) :=
  keeping_withResolved fun b' m' s' hr => h _ _ ⟨b', m', s', hr, rfl⟩

theorem keeping_withOperand {b : BitVec 3} {m : Addr} {rest : Word → State → Res State}
    (h : ∀ x s, Keeping w s (rest x s)) : Keeping w s (withOperand s b m rest) :=
  keeping_withEffective fun _ _ _ => keeping_withRead h

/-- A checked store at M, and the next instruction. -/
theorem keeping_storeEffective {b : BitVec 3} {m : Addr} (hw : ∀ a, IsEffective s b m a → w a)
    {f : Addr → State → Cell → Cell} :
    Keeping w s (withEffective s b m fun e s => storeNext (storeCell s e (f e s))) :=
  keeping_withEffective fun e _ he => keeping_storeNext (hw e he)

/-- A checked store at m, and the next instruction. -/
theorem keeping_storeResolved {b : BitVec 3} {m : Addr} (hw : ∀ a, IsResolved s b m a → w a)
    {f : BitVec 3 → State → Cell → Cell} :
    Keeping w s (withResolved s b m fun b m s => storeNext (storeCell s m (f b s))) :=
  keeping_withResolved fun b' m' s' hr => keeping_storeNext (hw m' ⟨b', s', hr⟩)

/-! ## Jumps and interrupt entries -/

theorem keeping_loadU : Keeping w s (loadU s) := by
  intro t ht
  obtain ⟨-, ⟨-, rfl⟩ | ⟨-, rfl⟩⟩ := (loadU_eq_next s t).mp ht
  · exact .same
  · exact (keeps_fault (n := 46) (by decide)).trans .same

theorem keeping_enterAt {m : Addr} {half : Half} : Keeping w s (enterAt s m half) := by
  cases half
  · exact keeping_next .same
  · exact keeping_from .same keeping_loadU

theorem keeping_takeJump {m : Addr} : Keeping w s (takeJump s m) := by
  rw [takeJump]
  split
  · exact keeping_enterAt
  · exact keeping_from .same keeping_enterAt

theorem keeping_jumpElse {m : Addr} {onward : State → State} (h : ∀ s, Keeps w s (onward s)) :
    Keeping w s (jumpElse s m onward) :=
  keeping_ite (fun _ => keeping_takeJump) fun _ => keeping_next (keeps_violation.trans (h _))

theorem keeping_jump {m : Addr} : Keeping w s (jump s m) := keeping_jumpElse fun _ => .same

theorem keeping_rejectJump {m : Addr} : Keeping w s (rejectJump s m) := keeping_jumpElse fun _ => .same

/-- An entry by return jump stores in the word it enters and in no other (rule R241). -/
theorem keeping_enterThrough {m v : Addr} (hm : w m) : Keeping w s (enterThrough s m v) :=
  keeping_ite
    (fun _ => keeping_andThen (keeping_from (keeps_setCell hm _) keeping_gap) fun _ => keeping_enterAt)
    fun _ => keeping_refused _

theorem keeping_returnJump {m : Addr} (hm : w m) : Keeping w s (returnJump s m) :=
  keeping_ite (fun _ => keeping_enterThrough hm) fun _ => keeping_advance keeps_violation

theorem keeping_jumpIf {c : Bool} {m : Addr} : Keeping w s (jumpIf c s m) :=
  keeping_ite (fun _ => keeping_jump) fun _ => keeping_advance .refl

theorem keeping_returnJumpIf {c : Bool} {m : Addr} (hm : w m) : Keeping w s (returnJumpIf c s m) :=
  keeping_ite (fun _ => keeping_returnJump hm) fun _ => keeping_advance .refl

theorem keeping_stopJump {ret : Bool} {m : Addr} (hm : ret = true → w m) : Keeping w s (stopJump ret s m) :=
  keeping_ite (fun hr => keeping_returnJump (hm hr)) fun _ => keeping_jump

theorem keeping_stopIf {c ret : Bool} {m : Addr} (hm : ret = true → w m) : Keeping w s (stopIf c ret s m) :=
  keeping_ite (fun _ => keeping_next .same) fun _ => keeping_stopJump hm

theorem keeping_raiseCategoryIII (h : w 0o20) : Keeping w s (raiseCategoryIII s) :=
  keeping_from .same (keeping_enterThrough h)

theorem keeping_raiseCategoryII {ff : BitVec 2} (h : w (0o30 + (0#13 ++ ff))) : Keeping w s (raiseCategoryII s ff) :=
  keeping_from .same (keeping_enterThrough h)

/-! ## The shared frames of a family -/

theorem keeping_withShift {b : BitVec 3} {k : Addr} {rest : Nat → State → State}
    (h : ∀ n s, Keeps w s (rest n s)) : Keeping w s (withShift s b k rest) :=
  keeping_withEffective fun _ _ _ => keeping_advance ((keeps_faultIf _ (by decide)).trans (h _ _))

theorem keeps_addToA (x : Word) (c : Bool) : Keeps w s (addToA s x c) :=
  (keeps_faultIf (n := 3) _ (by decide)).trans .same

theorem keeps_divideQA (d : Word) : Keeps w s (divideQA s d) := by
  rw [divideQA]
  split
  · exact (keeps_fault (n := 2) (by decide)).trans .same
  · exact .same

theorem keeps_floatResult (k : FpKind) (x : Word) : Keeps w s (floatResult k x s) :=
  .trans (.trans (.trans (keeps_faultIf (n := 2) _ (by decide)) (keeps_faultIf (n := 4) _ (by decide)))
    (keeps_faultIf (n := 5) _ (by decide))) .same

theorem keeping_float {k : FpKind} {ff : BitVec 2} {b : BitVec 3} {m : Addr} (h : w (0o30 + (0#13 ++ ff))) :
    Keeping w s (float k ff b m s) :=
  keeping_ite (fun _ => keeping_withOperand fun _ _ => keeping_advance (keeps_floatResult _ _))
    fun _ => keeping_raiseCategoryII h

theorem keeping_replaceWith {b : BitVec 3} {m : Addr} (hw : ∀ a, IsEffective s b m a → w a) {y : State → Word} :
    Keeping w s (replaceWith s b m y) :=
  keeping_withEffective fun e _ he => keeping_withRead fun _ _ => keeping_andThen keeping_gap fun _ =>
    keeping_andThen (keeping_from ((keeps_faultIf (n := 3) _ (by decide)).trans .same) (keeping_storeCell (hw e he)))
      fun _ => keeping_advance .refl

theorem keeping_searchList (hit : Word → State → Bool) (b : BitVec 3) (m : Addr) (n : Nat) (s : State) :
    Keeping w s (searchList hit b m n s) := by
  induction n generalizing s with
  | zero => exact keeping_advance .refl
  | succ n ih =>
    rw [searchList]
    exact keeping_from .same (keeping_withRead fun x s => keeping_ite (fun _ => keeping_nextStep .refl) fun _ =>
      keeping_ite (fun _ => keeping_advance .refl) fun _ => keeping_andThen keeping_gap ih)

theorem keeping_search {b : BitVec 3} {m : Addr} {hit : Word → State → Bool} : Keeping w s (search s b m hit) :=
  keeping_withResolved fun _ _ _ _ =>
    keeping_ite (fun _ => keeping_withRead fun _ _ => keeping_next (keeps_skipIf _)) fun _ =>
      keeping_searchList _ _ _ _ _

/-! ## The channels -/

theorem keeps_connectChannel (x : Nat) (c : Byte12) : Keeps w s (connectChannel s x c).2 := by
  simp only [connectChannel]
  split
  · exact .refl
  · split
    · exact keeps_setChannel id
    · exact keeps_putChannel id

theorem keeps_functionChannel {x : Nat} (hx : x < 4) (c : Byte12) : Keeps w s (functionChannel s x c).2 := by
  simp only [functionChannel]
  split
  · exact .refl
  · split
    · refine .trans (keeps_setChannel ?_) (keeps_fault (latchedBits_ioParity x hx))
      exact id
    · exact (keeps_setEquips x _).trans .same

theorem keeps_activate (x : Nat) (dir : Direction) (wc ad : Addr) : Keeps w s (activate s x dir wc ad) :=
  keeps_putChannel fun _ => rfl

theorem keeps_clearChannel (k : ClearScope) (x : Nat) : Keeps w s (clearChannel k s x) :=
  (keeps_putChannel (c := (s.channel x).cleared x k) fun _ => rfl).trans (keeps_setLatch (clearBit_within (20 + x)))

/-- The channel of a Class III instruction is one of the four. -/
theorem keeping_withChannel {x : BitVec 3} {rest : Nat → Channel → Res State}
    (h : ∀ y < 4, Keeping w s (rest y (s.channel y))) : Keeping w s (withChannel s x rest) :=
  keeping_ite (fun hx => h _ (hx.trans_le (nchan_le_four _))) fun _ => keeping_refused _

theorem keeping_answered {r : Answer × State} {n : Addr} (h : Keeps w s r.2) : Keeping w s (answered r n) := by
  rw [answered]
  split
  · exact keeping_nextStep h
  · exact keeping_from h keeping_rejectJump

/-- BEGR and BEGW. -/
theorem keeping_begin {n m : Addr} {x : BitVec 3} {dir : Direction} :
    Keeping w s (withChannel s x fun x ch =>
      if ch.act then rejectJump s n else andThen (startChannel s x dir m) fun s => .next s.nextStep) :=
  keeping_withChannel fun _ hx => keeping_ite (fun _ => keeping_rejectJump) fun _ =>
    keeping_andThen (keeping_withChannelRead hx fun _ => keeping_next (keeps_activate _ _ _ _))
      fun _ => keeping_nextStep .refl

end Operations

/-! ## INF -/

/-- The Mask bits the operation can set are assigned ones (rule R28). -/
def InfOp.masksAssigned : InfOp → Bool
  | .selectInactive x => maskBits.getLsbD (10 + x)
  | .mask n _ | .maskAndClear n _ => maskBits.getLsbD n
  | _ => true

/-- Every listed code masks assigned bits only: the codes of each table, one by one (rule R266 to rule R276). -/
theorem infOperation_masksAssigned (y : Addr) : (infOperation y).all InfOp.masksAssigned = true := by
  have hn : (y.extractLsb' 3 3).toNat < 8 := BitVec.isLt _
  have he : (y.extractLsb' 0 3).toNat < 8 := BitVec.isLt _
  unfold infOperation
  generalize (y.extractLsb' 3 3).toNat = n at hn ⊢
  generalize (y.extractLsb' 0 3).toNat = e at he ⊢
  dsimp only
  split
  case h_8 => rfl
  all_goals
    revert n e
    decide

/-- What a code of INF does keeps to the assigned bits. -/
theorem keeps_applyInf {w : Addr → Prop} {o : InfOp} (h : o.masksAssigned = true) (s : State) :
    Keeps w s (applyInf o s) := by
  cases o with
  | selectInactive x => exact (keeps_setMask (setBit_within · h)).trans (keeps_setLatch (clearBit_within _))
  | clearInactive x => exact (keeps_setMask (clearBit_within _)).trans (keeps_setLatch (clearBit_within _))
  | mask n b => exact keeps_setMask (putBit_within b · h)
  | clearFault n => exact keeps_setLatch (clearBit_within n)
  | clearFaults => exact keeps_setLatch (and_within _)
  | selectTime =>
    exact (keeps_setMask (setBit_within (n := 44) · (by decide))).trans
      ((keeps_setLatch (clearBit_within 44)).trans .same)
  | clearTime =>
    exact (keeps_setMask (clearBit_within 44)).trans ((keeps_setLatch (clearBit_within 44)).trans .same)
  | maskAndClear n b => exact (keeps_setMask (putBit_within b · h)).trans (keeps_setLatch (clearBit_within n))
  | clearSystem =>
    exact keeps_update (fun _ => BitVec.zero_and) (fun _ => BitVec.zero_and) id
  | exitI b | exitII b | active b => exact .same

/-! ## What each instruction stores -/

/-- The words an instruction may store in: the one at M, or at m, or the entry word of an interrupt; or none
(rule R75, rule R241, rule R450, rule R453). -/
def storesAt (i : Instr) (s : State) : Addr → Prop :=
  match i with
  | .sta b m | .stq b m | .stl b m | .sau b m | .sal b m | .rad b m | .rsb b m | .rao b m | .rso b m | .ssh b m
  | .stc b _ m => IsEffective s b m
  | .siu b m | .sil b m => IsResolved s b m
  | .arj _ m | .qrj _ m | .rtj m | .rj1 m | .rj2 m | .rj3 m | .srj m | .sr1 m | .sr2 m | .sr3 m => (· = m)
  | .fad _ _ => (· = 0o30)
  | .fsb _ _ => (· = 0o31)
  | .fmu _ _ => (· = 0o32)
  | .fdv _ _ => (· = 0o33)
  | .eub _ | .elb _ | .ill26 _ | .ill27 _ | .ill777 _ | .ill747 _ => (· = 0o20)
  | _ => fun _ => False

/-- An instruction keeps the state sound and stores in no word but its own. -/
theorem exec_keeping (i : Instr) (s : State) : Keeping (storesAt i s) s (exec i s) := by
  cases i with
  | iaq =>
    rw [exec]
    exact keeping_next .same
  | ati b =>
    rw [exec]
    exact keeping_ite (fun _ => keeping_next .same) fun _ => keeping_refused _
  | ars b k | als b k | qrs b k | qls b k | lrs b k | lls b k =>
    rw [exec]
    exact keeping_withShift fun _ _ => .same
  | ena b y | enq b y =>
    rw [exec]
    exact keeping_withEffective fun _ _ _ => keeping_next .same
  | ina b y =>
    rw [exec]
    exact keeping_withEffective fun _ _ _ => keeping_advance (keeps_addToA _ _)
  | lda b m | lac b m | ldq b m | lqc b m | sst b m | scl b m | scm b m | ssu b m | ldl b m | mui b m =>
    rw [exec]
    exact keeping_withOperand fun _ _ => keeping_next .same
  | add b m | sub b m | adl b m | sbl b m =>
    rw [exec]
    exact keeping_withOperand fun _ _ => keeping_advance (keeps_addToA _ _)
  | dvi b m =>
    rw [exec]
    exact keeping_withOperand fun _ _ => keeping_advance (keeps_divideQA _)
  | fad b m | fsb b m | fmu b m | fdv b m =>
    rw [exec]
    exact keeping_float rfl
  | sta b m | stq b m | stl b m | sau b m | sal b m =>
    rw [exec]
    exact keeping_storeEffective fun _ he => he
  | siu b m | sil b m =>
    rw [exec]
    exact keeping_storeResolved fun _ hm => hm
  | sca b k | scq b k | eni b y | ini b y =>
    rw [exec]
    exact keeping_withResolved fun _ _ _ _ => keeping_next .same
  | ssk b m =>
    rw [exec]
    exact keeping_withOperand fun _ _ => keeping_next (keeps_skipIf _)
  | ssh b m =>
    rw [exec]
    exact keeping_withEffective fun _ _ he => keeping_withRead fun _ _ => keeping_andThen keeping_gap fun _ =>
      keeping_andThen (keeping_storeCell he) fun _ => keeping_next (keeps_skipIf _)
  | rad b m | rsb b m | rao b m | rso b m =>
    rw [exec]
    exact keeping_replaceWith fun _ he => he
  | liu b m | lil b m =>
    rw [exec]
    exact keeping_withResolved fun _ _ _ _ => keeping_withRead fun _ _ => keeping_next .same
  | isk b y =>
    rw [exec]
    exact keeping_withResolved fun _ _ _ _ => keeping_ite (fun _ => keeping_next .same) fun _ => keeping_next .same
  | ijp b m =>
    rw [exec]
    exact keeping_withResolved fun _ _ _ _ => keeping_ite (fun _ => keeping_next .same)
      fun _ => keeping_from .same keeping_jump
  | eqs b m | ths b m | meq b m | mth b m =>
    rw [exec]
    exact keeping_search
  | ajp j m | qjp j m | sj1 m | sj2 m | sj3 m =>
    rw [exec]
    exact keeping_jumpIf
  | slj m =>
    rw [exec]
    exact keeping_jump
  | arj j m | qrj j m | rj1 m | rj2 m | rj3 m =>
    rw [exec]
    exact keeping_returnJumpIf rfl
  | rtj m =>
    rw [exec]
    exact keeping_returnJump rfl
  | sls m | ss1 m | ss2 m | ss3 m =>
    rw [exec]
    exact keeping_stopIf nofun
  | srj m | sr1 m | sr2 m | sr3 m =>
    rw [exec]
    exact keeping_stopIf fun _ => rfl
  | ill26 r | ill27 r | ill777 r | ill747 r =>
    rw [exec]
    exact keeping_raiseCategoryIII rfl
  | undef62 r =>
    rw [exec]
    exact keeping_refused _
  | inf y =>
    rw [exec, execInf]
    have hmask := infOperation_masksAssigned y
    split
    · next o ho =>
      rw [ho] at hmask
      exact keeping_advance (keeps_applyInf hmask s)
    · exact keeping_refused _
  | aug y =>
    rw [exec, execAug]
    split
    · exact keeping_next .same
    · exact keeping_withEffective fun _ _ _ => keeping_next .same
  | cis y | cpr y =>
    rw [exec]
    exact keeping_next .same
  | sen y =>
    rw [exec, execSen]
    split
    · exact keeping_next .same
    · exact keeping_next (keeps_skipIf _)
    · exact keeping_refused _
  | eub y | elb y =>
    rw [exec]
    exact keeping_ite (fun _ => keeping_raiseCategoryIII rfl) fun _ => keeping_next .same
  | conn n x c =>
    rw [exec]
    exact keeping_withChannel fun _ _ => keeping_ite (fun _ => keeping_rejectJump) fun _ =>
      keeping_ite (fun _ => keeping_refused _) fun _ => keeping_answered (keeps_connectChannel _ _)
  | extf n x c =>
    rw [exec]
    exact keeping_withChannel fun _ hx => keeping_ite (fun _ => keeping_rejectJump) fun _ =>
      keeping_answered (keeps_functionChannel hx _)
  | begr n x m | begw n x m =>
    rw [exec]
    exact keeping_begin
  | copy n x m =>
    rw [exec]
    exact keeping_withChannel fun _ _ => keeping_next .same
  | clch n x m =>
    rw [exec]
    exact keeping_withChannel fun _ _ => keeping_nextStep (keeps_clearChannel _ _)
  | ccwd n x m =>
    rw [exec]
    refine keeping_withChannel fun _ _ => keeping_nextStep (.trans (keeps_setChannel ?_) .same)
    exact id
  | ldc b v m =>
    rw [exec]
    exact keeping_ite (fun _ => keeping_withOperand fun _ _ => keeping_next .same) fun _ => keeping_refused _
  | stc b v m =>
    rw [exec]
    exact keeping_ite
      (fun _ => keeping_withEffective fun _ _ he => keeping_withRead fun _ _ => keeping_andThen keeping_gap fun _ =>
        keeping_andThen (keeping_storeCell he) fun _ => keeping_next .same)
      fun _ => keeping_refused _

/-! ## The step -/

section Step
variable {w : Addr → Prop} {s : State}

theorem keeping_enterCategoryI : Keeping anyWord s (enterCategoryI s) :=
  keeping_from .same (keeping_enterThrough trivial)

theorem keeping_finish (half : Half) : Keeping anyWord s (finish half s) := by
  rw [finish_eq]
  refine keeping_ite (fun _ => keeping_refused _) fun _ => keeping_ite (fun _ => ?_) fun _ => keeping_next .same
  exact keeping_from .same (keeping_andThen keeping_gap fun _ =>
    keeping_ite (fun _ => keeping_enterCategoryI) fun _ => keeping_next .refl)

theorem keeps_returnTrigger : Keeps w s (returnTrigger s) := by
  obtain ⟨-, -, h⟩ | ⟨-, h⟩ | h := returnTrigger_cases s <;> rw [h] <;> exact .same

theorem keeping_fetch : Keeping w s (fetch s) := by
  refine keeping_from (t := if s.allowed s.p then { s with aug := none } else { s with aug := none }.violation) ?_
    keeping_loadU
  split
  · exact .same
  · exact .trans .same keeps_violation

theorem Keeps.any {t : State} (h : Keeps w s t) : Keeps anyWord s t :=
  ⟨h.sound, h.quiet, fun _ _ ha => absurd trivial ha⟩

theorem keeping_runDecoded (half : Half) (d : Decoded) : Keeping anyWord s (runDecoded half d s) := by
  cases d with
  | error e => exact keeping_refused _
  | ok i => exact keeping_andThen (fun t ht => (exec_keeping i s t ht).any) fun _ => keeping_finish half

theorem keeping_runInstruction : Keeping anyWord s (runInstruction s) := by
  rw [runInstruction]
  split
  · exact keeping_andThen keeping_fetch fun _ => keeping_ite
      (fun _ => keeping_andThen keeping_gap fun _ => keeping_from keeps_returnTrigger (keeping_runDecoded _ _))
      fun _ => keeping_next .refl
  · exact keeping_runDecoded _ _

theorem keeps_externalMasterClear : Keeps w s (externalMasterClear s) := by
  have h (s : State) (x : Nat) : Keeps w s (clearInstalled s x) := by
    rw [clearInstalled]
    split
    · exact keeps_clearChannel _ _
    · exact .refl
  exact (h _ 0).trans ((h _ 1).trans ((h _ 2).trans (h _ 3)))

/-- The free values an internal master clear leaves are confined to the assigned bits (rule R480). -/
theorem keeps_internalMasterClear : Keeps w s (internalMasterClear s) := by
  have hmask (x m : Word) : x &&& m &&& ~~~m = 0 := by rw [BitVec.and_assoc]; simp
  refine keeps_update (fun _ => ?_) (fun _ => hmask _ _) id
  show s.free 6 &&& (latchedBits &&& ~~~masterCleared) &&& ~~~latchedBits = 0
  rw [← BitVec.and_assoc]
  exact and_within _ (hmask _ _)

theorem keeping_autoLoad : Keeping w s (autoLoad s) := by
  refine keeping_from (keeps_internalMasterClear.trans keeps_externalMasterClear) ?_
  unfold autoLoad
  generalize externalMasterClear (internalMasterClear s) = c
  dsimp only
  refine keeping_ite (fun _ => keeping_ite (fun _ => keeping_refused _) fun _ => keeping_next ?_)
    fun _ => keeping_refused _
  exact (keeps_connectChannel _ _).trans ((keeps_functionChannel (Fin.isLt _) _).trans
    ((keeps_activate _ _ _ _).trans .same))

theorem keeping_autoLoadEntry : Keeping anyWord s (autoLoadEntry s) := by
  rw [autoLoadEntry]
  split
  · exact keeping_next .same
  · exact keeping_from .same (keeping_enterThrough trivial)

theorem keeping_go : Keeping anyWord s (go s) := by
  have hoff (off : Bool) (t : State) : Keeps anyWord t (stopIfOff off t) := by
    cases off <;> exact .same
  unfold go
  cases s.run with
  | stopped why =>
    cases why with
    | sls ret m off =>
      exact keeping_andThen (keeping_from .same (keeping_andThen (keeping_stopJump fun _ => trivial)
        fun _ => keeping_finish _)) fun _ => keeping_next (hoff _ _)
    | instructionParity =>
      refine keeping_ite (fun _ => keeping_from .same keeping_enterCategoryI) fun _ => ?_
      cases s.h
      · exact keeping_next .same
      · exact keeping_from .same keeping_loadU
    | _ => exact keeping_next .refl
  | _ => exact keeping_next .refl

theorem keeps_systemActiveSwitch (on : Bool) : Keeps w s (systemActiveSwitch s on) := by
  rw [systemActiveSwitch]
  split
  · exact .refl
  · split
    · exact .trans .same (keeps_internalMasterClear.trans keeps_externalMasterClear)
    · exact .same

/-- Any action of another agent between two instructions. -/
theorem keeping_deliver (e : Event) : Keeping anyWord s (deliver e s) := by
  cases e with
  | go => exact keeping_operate keeping_go
  | restart =>
    exact keeping_operate (keeping_from (keeps_externalMasterClear.trans .same) (keeping_enterThrough trivial))
  | autoLoad => exact keeping_operate keeping_autoLoad
  | emergencyOff => exact keeping_fault _
  | internalMasterClear => exact keeping_operate (keeping_next keeps_internalMasterClear)
  | externalMasterClear => exact keeping_operate (keeping_next keeps_externalMasterClear)
  | systemActive on => exact keeping_next (keeps_systemActiveSwitch on)
  | maintenanceMode on => exact keeping_next .same
  | autoLoadSwitches x c f => exact keeping_operate (keeping_next .same)
  | manualStart a => exact keeping_operate (keeping_next .same)
  | _ =>
    rw [deliver]
    exact keeping_agentEvent _ s

theorem keeping_act : Keeping anyWord s (act s) := by
  rw [act]
  split
  · exact keeping_runInstruction
  · exact keeping_autoLoadEntry
  all_goals exact keeping_next .refl

/-- So does every step, whoever's turn it is. -/
theorem keeping_step : Keeping anyWord s (step s) := by
  match hin : s.inputs with
  | [] =>
    rw [step_computer s hin]
    exact keeping_act
  | (0, e) :: rest =>
    rw [step_agent s e rest hin]
    exact keeping_from .same (keeping_deliver e)
  | (n + 1, e) :: rest =>
    rw [step_waiting s n e rest hin]
    exact keeping_from .same keeping_act

end Step

/-! ## A return under way -/

section Returning
variable {s t : State}

theorem settled_of_ret_none (h : s.ret = none) : s.Settled := by
  intro hs
  simp [h] at hs

/-- No return is under way in a computer that has ended its instruction. -/
theorem State.Settled.ret_none (h : s.Settled) (hu : s.unfinished = false) : s.ret = none := by
  rw [← Option.not_isSome_iff_eq_none]
  intro hs
  simp [h hs] at hu

/-- Nor after an update that leaves both the return and the run state. -/
theorem State.Settled.same (h : s.Settled) (hret : t.ret = s.ret) (hrun : t.run = s.run) : t.Settled := by
  intro hs
  rw [State.unfinished, hrun]
  exact h (hret ▸ hs)

/-- Another agent begins no return; it ends an auto-load, which is none. -/
theorem State.Settled.agent (h : s.Settled) (hf : AgentFrame s t) : t.Settled := by
  cases hu : s.unfinished
  · exact settled_of_ret_none (hf.ret.trans (h.ret_none hu))
  · refine h.same hf.ret (hf.run fun x hx => ?_)
    simp [State.unfinished, hx] at hu

theorem loadU_ret (h : loadU s = .next t) : t.ret = s.ret := by
  obtain ⟨-, ⟨-, rfl⟩ | ⟨-, rfl⟩⟩ := (loadU_eq_next s t).mp h <;> rfl

theorem enterThrough_ret {m v : Addr} (h : enterThrough s m v = .next t) : t.ret = s.ret :=
  (frame_enterThrough s t m v h).2.2.ret

theorem enterCategoryI_ret (h : enterCategoryI s = .next t) : t.ret = s.ret := by
  have hret := enterThrough_ret h
  exact hret

theorem sample_ret (h : sample s = .next t) : t.ret = s.ret := by
  obtain ⟨-, rfl⟩ | ⟨-, h⟩ := sample_eq_next s t h
  · rfl
  · exact enterCategoryI_ret h

/-- An instruction that ends leaves no return under way, and one that has not ended is left as it is (rule R446,
rule R452; file 93, U15). -/
theorem finish_cases {half : Half} (h : finish half s = .next t) :
    (s.unfinished = false ∧ t.ret = none) ∨ (s.unfinished = true ∧ t = s.augEnded half) := by
  cases hu : s.unfinished
  · refine .inl ⟨rfl, ?_⟩
    rw [finish_eq] at h
    split at h
    · cases h
    · next hret =>
      have hnone : s.ret = none := by simpa [hu] using hret
      split at h
      · obtain ⟨r, hr, h⟩ := (andThen_eq_next _ _ _).mp h
        exact (sample_ret h).trans ((frame_gap _ _ hr).ret.trans hnone)
      · cases h
        exact hnone
  · rw [finish_unfinished half s hu] at h
    cases h
    exact .inr ⟨rfl, rfl⟩

theorem finish_settled {half : Half} (h : finish half s = .next t) : t.Settled := by
  obtain ⟨-, hn⟩ | ⟨hu, rfl⟩ := finish_cases h
  · exact settled_of_ret_none hn
  · exact fun _ => hu

theorem runDecoded_settled {half : Half} {d : Decoded} (h : runDecoded half d s = .next t) : t.Settled := by
  cases d with
  | error e => cases h
  | ok i =>
    obtain ⟨r, -, h⟩ := (andThen_eq_next _ _ _).mp h
    exact finish_settled h

theorem fetch_ret (h : fetch s = .next t) : t.ret = s.ret := by
  obtain ⟨-, _, -, ⟨-, rfl⟩ | ⟨-, rfl⟩⟩ := fetch_eq_next s t h <;> rfl

/-- An instruction leaves a return under way only if it has not ended. -/
theorem runInstruction_settled (hn : s.ret = none) (h : runInstruction s = .next t) : t.Settled := by
  rw [runInstruction] at h
  split at h
  · obtain ⟨f, hf, h⟩ := (andThen_eq_next _ _ _).mp h
    split at h
    · obtain ⟨g, -, h⟩ := (andThen_eq_next _ _ _).mp h
      exact runDecoded_settled h
    · cases h
      exact settled_of_ret_none ((fetch_ret hf).trans hn)
  · exact runDecoded_settled h

theorem autoLoadEntry_settled (hn : s.ret = none) (h : autoLoadEntry s = .next t) : t.Settled := by
  rw [autoLoadEntry] at h
  split at h
  · cases h
    exact settled_of_ret_none hn
  · exact settled_of_ret_none ((enterThrough_ret h).trans hn)

theorem act_settled (hs : s.Settled) (h : act s = .next t) : t.Settled := by
  rw [act] at h
  split at h
  case h_1 hrun => exact runInstruction_settled (hs.ret_none (by simp [State.unfinished, hrun])) h
  case h_2 hrun => exact autoLoadEntry_settled (hs.ret_none (by simp [State.unfinished, hrun])) h
  all_goals
    cases h
    exact hs

/-- Loading U leaves a running computer running or stops it by a parity error: its instruction has ended
(rule R456). -/
theorem loadU_ended (hr : s.run = .running) (h : loadU s = .next t) : t.unfinished = false := by
  obtain ⟨-, ⟨-, rfl⟩ | ⟨-, rfl⟩⟩ := (loadU_eq_next s t).mp h
  · simp [State.unfinished, hr]
  · rfl

theorem enterAt_ended {m : Addr} {half : Half} (hr : s.run = .running) (h : enterAt s m half = .next t) :
    t.unfinished = false := by
  cases half with
  | upper =>
    cases h
    simp [State.unfinished, hr]
  | lower => exact loadU_ended (s := { s with p := m, h := .lower }) hr h

theorem jump_ended {m : Addr} (hr : s.run = .running) (h : jump s m = .next t) : t.unfinished = false := by
  rw [jump, jumpElse] at h
  split at h
  · rw [takeJump] at h
    split at h
    · exact enterAt_ended hr h
    · next r _ => exact enterAt_ended (s := { s with ret := none }) hr h
  · cases h
    simp [State.unfinished, State.advance, State.violation, State.fault, hr]

theorem returnJump_ended {m : Addr} (hr : s.run = .running) (h : returnJump s m = .next t) : t.unfinished = false := by
  rw [returnJump] at h
  split at h
  · obtain ⟨-, g, hg, h⟩ := (enterThrough_eq_next _ _ _ _).mp h
    have hrun : g.run = .running := ((frame_gap _ _ hg).run (by simp [hr])).trans hr
    exact loadU_ended (s := { g with p := m, h := .lower }) hrun h
  · cases h
    simp [State.unfinished, State.advance, State.violation, State.fault, hr]

/-- The jump of a selective stop ends its instruction (rule R252). -/
theorem stopJump_ended {ret : Bool} {m : Addr} (hr : s.run = .running) (h : stopJump ret s m = .next t) :
    t.unfinished = false := by
  rw [stopJump] at h
  split at h
  · exact returnJump_ended hr h
  · exact jump_ended hr h

theorem stopIfOff_ret (off : Bool) (s : State) : (stopIfOff off s).ret = s.ret := by
  cases off <;> rfl

/-- Go at a selective stop ends its instruction, and so the return that may have been under way. -/
theorem go_settled (hs : s.Settled) (h : go s = .next t) : t.Settled := by
  cases hrun : s.run with
  | stopped why =>
    cases why with
    | sls ret m off =>
      simp only [go, hrun] at h
      obtain ⟨f, hf, h⟩ := (andThen_eq_next _ _ _).mp h
      obtain ⟨j, hj, hf⟩ := (andThen_eq_next _ _ _).mp hf
      have hended : j.unfinished = false := stopJump_ended rfl hj
      obtain ⟨-, hn⟩ | ⟨hu, -⟩ := finish_cases hf
      · cases h
        exact settled_of_ret_none ((stopIfOff_ret off f).trans hn)
      · simp [hended] at hu
    | instructionParity =>
      simp only [go, hrun] at h
      refine settled_of_ret_none (Eq.trans ?_ (hs.ret_none (by simp [State.unfinished, hrun])))
      split at h
      · have hret := enterCategoryI_ret h
        exact hret
      · split at h
        · cases h
          rfl
        · have hret := loadU_ret h
          exact hret
    | _ =>
      simp only [go, hrun] at h
      cases h
      exact hs
  | _ =>
    simp only [go, hrun] at h
    cases h
    exact hs

theorem externalMasterClear_ret (s : State) : (externalMasterClear s).ret = s.ret := by
  have h (s : State) (x : Nat) : (clearInstalled s x).ret = s.ret := by
    rw [clearInstalled]
    split <;> rfl
  simp only [externalMasterClear, h]

theorem externalMasterClear_run (s : State) : (externalMasterClear s).run = s.run := by
  have h (s : State) (x : Nat) : (clearInstalled s x).run = s.run := by
    rw [clearInstalled]
    split <;> rfl
  simp only [externalMasterClear, h]

theorem autoLoad_settled (h : autoLoad s = .next t) : t.Settled := by
  have hn : (externalMasterClear (internalMasterClear s)).ret = none := externalMasterClear_ret _
  unfold autoLoad at h
  generalize externalMasterClear (internalMasterClear s) = c at h hn
  dsimp only at h
  split at h
  · split at h
    · cases h
    · rw [← Host.Outcome.next.inj h]
      refine settled_of_ret_none ?_
      dsimp only
      rw [(frame_activate _ _ _ _ _).ret, (frame_functionChannel _ _ _).ret, (frame_connectChannel _ _ _).ret, hn]
  · cases h

/-- The switch going Off does not end an instruction (rule R483). -/
theorem unfinished_inactive (s : State) (c : Console) :
    State.unfinished { s with console := c, run := s.run.inactive } = s.unfinished := by
  unfold State.unfinished
  cases s.run with
  | stopped why => cases why <;> rfl
  | _ => rfl

theorem systemActiveSwitch_settled (hs : s.Settled) (on : Bool) : (systemActiveSwitch s on).Settled := by
  rw [systemActiveSwitch]
  split
  · exact hs
  · split
    · exact settled_of_ret_none (externalMasterClear_ret _)
    · exact fun hret => (unfinished_inactive s _).trans (hs hret)

theorem operate_settled {r : Res State} (hs : s.Settled) (hr : r = .next t → t.Settled) (h : operate s r = .next t) :
    t.Settled := by
  rw [operate] at h
  split at h
  · exact hr h
  · cases h
    exact hs

theorem deliver_settled (e : Event) (hs : s.Settled) (h : deliver e s = .next t) : t.Settled := by
  cases e with
  | go => exact operate_settled hs (go_settled hs) h
  | restart => exact operate_settled hs (fun h => settled_of_ret_none (enterThrough_ret h)) h
  | autoLoad => exact operate_settled hs autoLoad_settled h
  | emergencyOff => cases h
  | internalMasterClear =>
    refine operate_settled hs (fun h => ?_) h
    cases h
    exact settled_of_ret_none rfl
  | externalMasterClear =>
    refine operate_settled hs (fun h => ?_) h
    cases h
    exact hs.same (externalMasterClear_ret s) (externalMasterClear_run s)
  | systemActive on =>
    cases h
    exact systemActiveSwitch_settled hs on
  | maintenanceMode on =>
    cases h
    exact hs
  | autoLoadSwitches x c f =>
    refine operate_settled hs (fun h => ?_) h
    cases h
    exact hs
  | manualStart a =>
    refine operate_settled hs (fun h => ?_) h
    cases h
    exact settled_of_ret_none rfl
  | _ =>
    rw [deliver] at h
    exact hs.agent (frame_agentEvent _ s t h)

/-- Every step leaves a return under way only in an instruction that has not ended. -/
theorem step_settled (hs : s.Settled) (h : step s = .next t) : t.Settled := by
  match hin : s.inputs with
  | [] =>
    rw [step_computer s hin] at h
    exact act_settled hs h
  | (0, e) :: rest =>
    rw [step_agent s e rest hin] at h
    exact deliver_settled e (s := { s with inputs := rest }) hs h
  | (n + 1, e) :: rest =>
    rw [step_waiting s n e rest hin] at h
    exact act_settled (s := { s with inputs := (n, e) :: rest }) hs h

end Returning

/-- Settles O7: a step keeps the state sound (`keeping_step`), and the return ends with its instruction
(`step_settled`). -/
theorem stepKeepsInvariant : Obligations.StepKeepsInvariant := by
  intro s t hs h
  obtain ⟨hsound, hsettled⟩ := s.inv_iff.mp hs
  exact t.inv_iff.mpr ⟨(keeping_step t h).sound hsound, step_settled hsettled h⟩

/-! ## The frames of storage -/

theorem storesAt_of_storesNothing {i : Instr} (h : storesNothing i = true) (s : State) (a : Addr) :
    ¬storesAt i s a := by
  cases i with
  | sta | stq | stl | siu | sil | sau | sal | rad | rsb | rao | rso | ssh | stc => cases h
  | arj | qrj | rtj | rj1 | rj2 | rj3 | srj | sr1 | sr2 | sr3 => cases h
  | fad | fsb | fmu | fdv | eub | elb | ill26 | ill27 | ill777 | ill747 | undef62 => cases h
  | _ => exact id

/-- An instruction whose stores can only be at one address leaves every other word as it was. -/
theorem exec_storesOnly {i : Instr} {s t : State} {a : Addr} (hq : s.Quiet) (hat : ∀ x, storesAt i s x → x = a)
    (h : exec i s = .next t) : SameStorageBut a s t :=
  fun x hx => (exec_keeping i s t h).cells hq x fun hs => hx (hat x hs)

/-- Indirect addressing leads to one place. -/
theorem Reaches.unique {s : State} {b : BitVec 3} {m : Addr} {b₁ b₂ : BitVec 3} {m₁ m₂ : Addr} {s₁ s₂ : State}
    (h₁ : Reaches s b m b₁ m₁ s₁) (h₂ : Reaches s b m b₂ m₂ s₂) : b₁ = b₂ ∧ m₁ = m₂ ∧ s₁ = s₂ :=
  Resolved.done.inj (Host.Outcome.next.inj (h₁.symm.trans h₂))

theorem IsEffective.eq_modified {s : State} {b : BitVec 3} {m a : Addr} {b' : BitVec 3} {m' : Addr} {s' : State}
    (ha : IsEffective s b m a) (hr : Reaches s b m b' m' s') : a = modified s' b' m' := by
  obtain ⟨_, _, _, h, rfl⟩ := ha
  obtain ⟨rfl, rfl, rfl⟩ := h.unique hr
  rfl

theorem IsResolved.eq {s : State} {b : BitVec 3} {m a : Addr} {b' : BitVec 3} {m' : Addr} {s' : State}
    (ha : IsResolved s b m a) (hr : Reaches s b m b' m' s') : a = m' := by
  obtain ⟨_, _, h⟩ := ha
  exact (h.unique hr).2.1

/-- Settles O16: the words an instruction stores in (`exec_keeping`), for each family of instructions. -/
theorem storageFrame : Obligations.StorageFrame := by
  refine ⟨fun i s t hq hi h a => (exec_keeping i s t h).cells hq a (storesAt_of_storesNothing hi s a),
    fun b v m s t b' m' s' hq hr => ⟨?effective, ?resolved⟩, fun j m s t hq => ?linked, fun b m s t hq => ?floating,
    fun y r r' r'' s t hq => ?illegal⟩
  case effective =>
    have hat : ∀ i ∈ [Instr.sta b m, .stq b m, .stl b m, .sau b m, .sal b m, .rad b m, .rsb b m, .rao b m, .rso b m,
        .ssh b m, .stc b v m], storesAt i s = IsEffective s b m := by simp [storesAt]
    exact fun i hi => exec_storesOnly hq fun x hx => (hat i hi ▸ hx : IsEffective s b m x).eq_modified hr
  case resolved =>
    have hat : ∀ i ∈ [Instr.siu b m, .sil b m], storesAt i s = IsResolved s b m := by simp [storesAt]
    exact fun i hi => exec_storesOnly hq fun x hx => (hat i hi ▸ hx : IsResolved s b m x).eq hr
  case linked =>
    have hat : ∀ i ∈ [Instr.arj j m, .qrj j m, .rtj m, .rj1 m, .rj2 m, .rj3 m, .srj m, .sr1 m, .sr2 m, .sr3 m],
        storesAt i s = (· = m) := by simp [storesAt]
    exact fun i hi => exec_storesOnly hq fun x hx => (hat i hi ▸ hx :)
  case floating =>
    have hat : ∀ p ∈ [(Instr.fad b m, 0o30#15), (.fsb b m, 0o31#15), (.fmu b m, 0o32#15), (.fdv b m, 0o33#15)],
        storesAt p.1 s = (· = p.2) := by simp [storesAt]
    exact fun p hp => exec_storesOnly hq fun x hx => (hat p hp ▸ hx :)
  case illegal =>
    have hat : ∀ i ∈ [Instr.eub y, .elb y, .ill26 r, .ill27 r, .ill777 r', .ill747 r''],
        storesAt i s = (· = 0o20) := by simp [storesAt]
    exact fun i hi => exec_storesOnly hq fun x hx => (hat i hi ▸ hx :)

end Sys2Proof.Machine
end

section
/-! The parity of storage words and the checked writes (rule R61, rule R62, rule R63, rule R67, rule R68). -/

namespace Sys2Proof.Machine

/-! ## Counting ones -/

/-- The number of ones of a word among the bits of a list. -/
def onesIn (v : Word) (l : List Nat) : Nat := (l.filter fun n => v.getLsbD n).length

/-- The bits of the three portions of a word that have a parity bit: bits 14-00, bits 38-24, and bits 47-39 and 23-15
(rule R62). -/
def lowerBits : List Nat := List.range 15
def upperBits : List Nat := (List.range 15).map (24 + ·)
def functionBits : List Nat := (List.range 9).map (39 + ·) ++ (List.range 9).map (15 + ·)

/-- Taking the exclusive or of bits one after another counts them modulo 2. -/
theorem foldl_xor_eq (f : Nat → Bool) (l : List Nat) (b : Bool) :
    l.foldl (fun b i => b ^^ f i) b = (b ^^ decide ((l.filter f).length % 2 = 1)) := by
  induction l generalizing b with
  | nil => simp
  | cons n l ih =>
    rw [List.foldl_cons, ih]
    cases h : f n
    · simp [h]
    · have hodd : decide (((l.filter f).length + 1) % 2 = 1) = !decide ((l.filter f).length % 2 = 1) := by
        rw [← decide_not, decide_eq_decide]
        omega
      simp [h, hodd]

/-- The parity bit is 1 exactly when the number of ones is even (rule R62). -/
theorem oddParity_getLsbD {n : Nat} (x : BitVec n) :
    (oddParity x).getLsbD 0 = decide (((List.range n).filter fun i => x.getLsbD i).length % 2 = 0) := by
  have hfold := foldl_xor_eq x.getLsbD (List.range n) false
  rw [oddParity, hfold, Bool.false_xor, ← decide_not]
  simp

/-- One bit of a word changed. -/
theorem getLsbD_xor_one_shiftLeft {w : Nat} (x : BitVec w) (n i : Nat) (hi : i < w) :
    (x ^^^ (1#w <<< n)).getLsbD i = (x.getLsbD i ^^ decide (i = n)) := by
  have h : (1#w <<< n).getLsbD i = (decide (n < w) && decide (n = i)) := BitVec.getLsbD_twoPow n i
  rw [BitVec.getLsbD_xor, h]
  by_cases hn : i = n
  · simp [← hn, hi]
  · simp [hn, Ne.symm hn]

/-- w is v with bit n changed. -/
def Flipped (v w : Word) (n : Nat) : Prop := ∀ k < 48, w.getLsbD k = (v.getLsbD k ^^ decide (k = n))

theorem onesIn_cons (v : Word) (k : Nat) (l : List Nat) :
    onesIn v (k :: l) = onesIn v l + if v.getLsbD k = true then 1 else 0 := by
  by_cases h : v.getLsbD k = true <;> simp [onesIn, h]

/-- Changing one bit of a word changes the parity of a portion exactly when the bit is in it. -/
theorem Flipped.onesIn_add {v w : Word} {n : Nat} (h : Flipped v w n) (l : List Nat) (hl : ∀ k ∈ l, k < 48) :
    (onesIn w l + onesIn v l) % 2 = l.count n % 2 := by
  induction l with
  | nil => rfl
  | cons k l ih =>
    have hcount := ih fun j hj => hl j (List.mem_cons_of_mem k hj)
    rw [onesIn_cons, onesIn_cons, List.count_cons, h k (hl k List.mem_cons_self)]
    by_cases hn : k = n <;> cases hv : v.getLsbD k <;> simp [hn] <;> omega

theorem upperAddress_getLsbD (v : Word) (i : Nat) (hi : i < 15) : (upperAddress v).getLsbD i = v.getLsbD (24 + i) := by
  simp [upperAddress, hi]

theorem lowerAddress_getLsbD (v : Word) (i : Nat) (hi : i < 15) : (lowerAddress v).getLsbD i = v.getLsbD i := by
  simp [lowerAddress, hi]

theorem functionPortion_getLsbD (v : Word) (i : Nat) (hi : i < 18) :
    (functionPortion v).getLsbD i = if i < 9 then v.getLsbD (15 + i) else v.getLsbD (30 + i) := by
  rw [functionPortion, BitVec.getLsbD_append, BitVec.getLsbD_extractLsb', BitVec.getLsbD_extractLsb']
  split
  · simp [*]
  · rw [show 39 + (i - 9) = 30 + i by omega]
    simp [show i - 9 < 9 by omega]

theorem onesIn_lowerBits (v : Word) :
    onesIn v lowerBits = ((List.range 15).filter fun i => (lowerAddress v).getLsbD i).length := by
  rw [onesIn, lowerBits]
  exact congrArg _ (List.filter_congr fun i hi => (lowerAddress_getLsbD v i (List.mem_range.mp hi)).symm)

theorem onesIn_upperBits (v : Word) :
    onesIn v upperBits = ((List.range 15).filter fun i => (upperAddress v).getLsbD i).length := by
  rw [onesIn, upperBits, List.filter_map, List.length_map]
  exact congrArg _ (List.filter_congr fun i hi => (upperAddress_getLsbD v i (List.mem_range.mp hi)).symm)

theorem onesIn_functionBits (v : Word) :
    onesIn v functionBits = ((List.range 18).filter fun i => (functionPortion v).getLsbD i).length := by
  have hlow : ∀ i ∈ List.range 9, v.getLsbD (15 + i) = (functionPortion v).getLsbD i := by
    intro i hi
    have hi := List.mem_range.mp hi
    rw [functionPortion_getLsbD v i (by omega), if_pos hi]
  have hhigh : ∀ i ∈ List.range 9, v.getLsbD (39 + i) = (functionPortion v).getLsbD (9 + i) := by
    intro i hi
    have hi := List.mem_range.mp hi
    rw [functionPortion_getLsbD v (9 + i) (by omega), if_neg (by omega), ← Nat.add_assoc]
  have hrange : List.range 18 = List.range 9 ++ (List.range 9).map (9 + ·) := List.range_add (n := 9) (m := 9)
  simp only [onesIn, functionBits, hrange, List.filter_append, List.filter_map, List.length_append, List.length_map]
  rw [Nat.add_comm]
  exact congrArg₂ (· + ·) (congrArg _ (List.filter_congr hlow)) (congrArg _ (List.filter_congr hhigh))

/-! ## The bits of a storage word -/

theorem cellOf_getLsbD (v : Word) (n : Nat) (hn : n < 48) : (cellOf v).getLsbD n = v.getLsbD n := by
  rw [cellOf, BitVec.getLsbD_append, if_pos hn]

theorem cellOf_getLsbD_48 (v : Word) : (cellOf v).getLsbD 48 = (oddParity (lowerAddress v)).getLsbD 0 := by
  rw [cellOf, BitVec.getLsbD_append, if_neg (by decide), BitVec.getLsbD_append, if_pos (by decide)]

theorem cellOf_getLsbD_49 (v : Word) : (cellOf v).getLsbD 49 = (oddParity (upperAddress v)).getLsbD 0 := by
  rw [cellOf, BitVec.getLsbD_append, if_neg (by decide), BitVec.getLsbD_append, if_neg (by decide),
    BitVec.getLsbD_append, if_pos (by decide)]

theorem cellOf_getLsbD_50 (v : Word) : (cellOf v).getLsbD 50 = (oddParity (functionPortion v)).getLsbD 0 := by
  rw [cellOf, BitVec.getLsbD_append, if_neg (by decide), BitVec.getLsbD_append, if_neg (by decide),
    BitVec.getLsbD_append, if_neg (by decide)]

/-- The portions of a storage word, each with the place of its parity bit (rule R62). -/
def portions : List (Nat × List Nat) := [(48, lowerBits), (49, upperBits), (50, functionBits)]

theorem lt_of_mem_portions : ∀ p ∈ portions, p.1 < 51 ∧ ∀ k ∈ p.2, k < 48 := by decide

/-- Every bit of a storage word is once in one of the portions or is its parity bit. -/
theorem covered_by_portions : ∀ n < 51, ∃ p ∈ portions, (p.1 :: p.2).count n = 1 := by decide

/-- The parity bit of each portion is 1 exactly when the number of its ones is even (rule R62). -/
theorem cellOf_getLsbD_parity (v : Word) :
    ∀ p ∈ portions, (cellOf v).getLsbD p.1 = decide (onesIn v p.2 % 2 = 0) := by
  simp only [portions, List.forall_mem_cons]
  refine ⟨?_, ?_, ?_, nofun⟩
  · rw [cellOf_getLsbD_48, oddParity_getLsbD, onesIn_lowerBits]
  · rw [cellOf_getLsbD_49, oddParity_getLsbD, onesIn_upperBits]
  · rw [cellOf_getLsbD_50, oddParity_getLsbD, onesIn_functionBits]

/-! ## Parity -/

/-- A portion has, with its parity bit, an odd number of ones (rule R62). -/
theorem cellOf_odd (v : Word) :
    ∀ p ∈ portions, (onesIn v p.2 + if (cellOf v).getLsbD p.1 = true then 1 else 0) % 2 = 1 := by
  intro p hp
  rw [cellOf_getLsbD_parity v p hp]
  by_cases h : onesIn v p.2 % 2 = 0 <;> simp [h] <;> omega

/-- A storage word with one bit changed has bad parity: the parity bit of the portion the changed bit belongs to no
longer agrees (rule R63). -/
theorem badParity_flip (v : Word) (n : Nat) (hn : n < 51) : badParity (cellOf v ^^^ (1#51 <<< n)) = true := by
  have hbit (k : Nat) (hk : k < 51) :
      (cellOf v ^^^ (1#51 <<< n)).getLsbD k = ((cellOf v).getLsbD k ^^ decide (k = n)) :=
    getLsbD_xor_one_shiftLeft _ n k hk
  generalize cellOf v ^^^ (1#51 <<< n) = c at hbit ⊢
  rw [badParity, bne_iff_ne]
  intro hgood
  have hflip : Flipped v (dataOf c) n := by
    intro k hk
    rw [← cellOf_getLsbD (dataOf c) k hk, hgood, hbit k (by omega), cellOf_getLsbD v k hk]
  obtain ⟨p, hp, hcount⟩ := covered_by_portions n hn
  obtain ⟨hp51, hp48⟩ := lt_of_mem_portions p hp
  have hsum := hflip.onesIn_add p.2 hp48
  have hparity : decide (onesIn (dataOf c) p.2 % 2 = 0) = (decide (onesIn v p.2 % 2 = 0) ^^ decide (p.1 = n)) := by
    rw [← cellOf_getLsbD_parity _ p hp, ← cellOf_getLsbD_parity _ p hp, hgood, hbit p.1 hp51]
  rw [List.count_cons] at hcount
  by_cases hpn : p.1 = n
  · rw [decide_eq_true hpn, Bool.xor_true, ← decide_not, decide_eq_decide] at hparity
    rw [if_pos (beq_iff_eq.mpr hpn)] at hcount
    omega
  · rw [decide_eq_false hpn, Bool.xor_false, decide_eq_decide] at hparity
    rw [if_neg (by simpa using hpn)] at hcount
    omega

/-- Settles O18: each portion by its parity bit (`cellOf_odd`), and a changed bit by `badParity_flip`. -/
theorem cellParity : Obligations.CellParity := by
  intro v
  have hodd := cellOf_odd v
  simp only [portions, List.forall_mem_cons] at hodd
  obtain ⟨hlower, hupper, hfunction, -⟩ := hodd
  exact ⟨hlower, hupper, hfunction, badParity_cellOf v, dataOf_cellOf v, badParity_flip v⟩

/-! ## Replacing an address portion -/

/-- A word with its upper address portion replaced. -/
def withUpperAddress (w : Word) (v : Addr) : Word := w.extractLsb' 39 9 ++ v ++ w.extractLsb' 0 24

theorem withUpperAddress_getLsbD (w : Word) (v : Addr) (n : Nat) (hn : n < 48) :
    (withUpperAddress w v).getLsbD n = if 24 ≤ n ∧ n < 39 then v.getLsbD (n - 24) else w.getLsbD n := by
  rw [withUpperAddress, BitVec.getLsbD_append, BitVec.getLsbD_append, BitVec.getLsbD_extractLsb',
    BitVec.getLsbD_extractLsb']
  by_cases hlow : n < 24
  · simp [hlow, show ¬24 ≤ n by omega]
  · by_cases hmid : n < 39
    · simp [hlow, hmid, show n - 24 < 15 by omega, show 24 ≤ n by omega]
    · simp [hlow, hmid, show ¬n - 24 < 15 by omega, show n - 24 - 15 < 9 by omega,
        show 39 + (n - 24 - 15) = n by omega]

theorem withLowerAddress_getLsbD (w : Word) (v : Addr) (n : Nat) (hn : n < 48) :
    (withLowerAddress w v).getLsbD n = if n < 15 then v.getLsbD n else w.getLsbD n := by
  rw [withLowerAddress, BitVec.getLsbD_append, BitVec.getLsbD_extractLsb']
  split
  · rfl
  · simp [show n - 15 < 33 by omega, show 15 + (n - 15) = n by omega]

theorem dataOf_getLsbD (c : Cell) (n : Nat) (hn : n < 48) : (dataOf c).getLsbD n = c.getLsbD n := by
  simp [dataOf, hn]

/-- The data bits and the parity bits make a storage word. -/
theorem cell_ext {c d : Cell} (hdata : dataOf c = dataOf d) (h48 : c.getLsbD 48 = d.getLsbD 48)
    (h49 : c.getLsbD 49 = d.getLsbD 49) (h50 : c.getLsbD 50 = d.getLsbD 50) : c = d := by
  refine BitVec.eq_of_getLsbD_eq fun n hn => ?_
  by_cases hlow : n < 48
  · rw [← dataOf_getLsbD c n hlow, ← dataOf_getLsbD d n hlow, hdata]
  · obtain rfl | rfl | rfl : n = 48 ∨ n = 49 ∨ n = 50 := by omega
    exacts [h48, h49, h50]

section Replaced
variable (w : Word) (v : Addr)

theorem upperAddress_withUpperAddress : upperAddress (withUpperAddress w v) = v := by
  refine BitVec.eq_of_getLsbD_eq fun i hi => ?_
  rw [upperAddress_getLsbD _ i hi, withUpperAddress_getLsbD w v _ (by omega), if_pos (by omega),
    Nat.add_sub_cancel_left]

theorem lowerAddress_withUpperAddress : lowerAddress (withUpperAddress w v) = lowerAddress w := by
  refine BitVec.eq_of_getLsbD_eq fun i hi => ?_
  rw [lowerAddress_getLsbD _ i hi, lowerAddress_getLsbD _ i hi, withUpperAddress_getLsbD w v _ (by omega),
    if_neg (by omega)]

theorem functionPortion_withUpperAddress : functionPortion (withUpperAddress w v) = functionPortion w := by
  refine BitVec.eq_of_getLsbD_eq fun i hi => ?_
  rw [functionPortion_getLsbD _ i hi, functionPortion_getLsbD _ i hi, withUpperAddress_getLsbD w v _ (by omega),
    withUpperAddress_getLsbD w v _ (by omega)]
  split <;> rw [if_neg (by omega)]

theorem lowerAddress_withLowerAddress : lowerAddress (withLowerAddress w v) = v := by
  refine BitVec.eq_of_getLsbD_eq fun i hi => ?_
  rw [lowerAddress_getLsbD _ i hi, withLowerAddress_getLsbD w v _ (by omega), if_pos hi]

theorem upperAddress_withLowerAddress : upperAddress (withLowerAddress w v) = upperAddress w := by
  refine BitVec.eq_of_getLsbD_eq fun i hi => ?_
  rw [upperAddress_getLsbD _ i hi, upperAddress_getLsbD _ i hi, withLowerAddress_getLsbD w v _ (by omega),
    if_neg (by omega)]

theorem functionPortion_withLowerAddress : functionPortion (withLowerAddress w v) = functionPortion w := by
  refine BitVec.eq_of_getLsbD_eq fun i hi => ?_
  rw [functionPortion_getLsbD _ i hi, functionPortion_getLsbD _ i hi, withLowerAddress_getLsbD w v _ (by omega),
    withLowerAddress_getLsbD w v _ (by omega)]
  split <;> rw [if_neg (by omega)]

end Replaced

/-- Every bit of a word whose upper address portion is replaced (rule R68). -/
theorem replaceUpper_getLsbD (v : Addr) (c : Cell) (n : Nat) (hn : n < 51) :
    (replaceUpper v c).getLsbD n =
      if 24 ≤ n ∧ n < 39 then v.getLsbD (n - 24) else if n = 49 then (oddParity v).getLsbD 0 else c.getLsbD n := by
  simp only [replaceUpper, BitVec.getLsbD_append, BitVec.getLsbD_extractLsb']
  by_cases h24 : n < 24
  · simp [h24, show ¬24 ≤ n by omega, show n ≠ 49 by omega]
  by_cases h39 : n < 39
  · simp [h24, h39, show n - 24 < 15 by omega, show 24 ≤ n by omega]
  by_cases h48 : n < 48
  · simp [h24, h39, show ¬n - 24 < 15 by omega, show n - 24 - 15 < 9 by omega, show n ≠ 49 by omega,
      show 39 + (n - 24 - 15) = n by omega]
  obtain rfl | rfl | rfl : n = 48 ∨ n = 49 ∨ n = 50 := by omega
  all_goals simp

theorem replaceLower_getLsbD (v : Addr) (c : Cell) (n : Nat) (hn : n < 51) :
    (replaceLower v c).getLsbD n =
      if n < 15 then v.getLsbD n else if n = 48 then (oddParity v).getLsbD 0 else c.getLsbD n := by
  simp only [replaceLower, BitVec.getLsbD_append, BitVec.getLsbD_extractLsb']
  by_cases h15 : n < 15
  · simp [h15]
  by_cases h48 : n < 48
  · simp [h15, show n - 15 < 33 by omega, show n ≠ 48 by omega, show 15 + (n - 15) = n by omega]
  obtain rfl | rfl | rfl : n = 48 ∨ n = 49 ∨ n = 50 := by omega
  all_goals simp

theorem dataOf_replaceUpper (v : Addr) (c : Cell) : dataOf (replaceUpper v c) = withUpperAddress (dataOf c) v := by
  refine BitVec.eq_of_getLsbD_eq fun n hn => ?_
  rw [dataOf_getLsbD _ n hn, replaceUpper_getLsbD v c n (by omega), withUpperAddress_getLsbD _ v n hn,
    dataOf_getLsbD c n hn, if_neg (show n ≠ 49 by omega)]

theorem dataOf_replaceLower (v : Addr) (c : Cell) : dataOf (replaceLower v c) = withLowerAddress (dataOf c) v := by
  refine BitVec.eq_of_getLsbD_eq fun n hn => ?_
  rw [dataOf_getLsbD _ n hn, replaceLower_getLsbD v c n (by omega), withLowerAddress_getLsbD _ v n hn,
    dataOf_getLsbD c n hn, if_neg (show n ≠ 48 by omega)]

/-- A word whose parity is good is good, and is the replaced word, after its upper address portion is replaced. -/
theorem replaceUpper_cellOf (v : Addr) (w : Word) : replaceUpper v (cellOf w) = cellOf (withUpperAddress w v) := by
  refine cell_ext ?_ ?_ ?_ ?_
  · rw [dataOf_replaceUpper, dataOf_cellOf, dataOf_cellOf]
  · rw [replaceUpper_getLsbD v _ 48 (by decide), cellOf_getLsbD_48, cellOf_getLsbD_48, lowerAddress_withUpperAddress]
    rfl
  · rw [replaceUpper_getLsbD v _ 49 (by decide), cellOf_getLsbD_49 (withUpperAddress w v),
      upperAddress_withUpperAddress]
    rfl
  · rw [replaceUpper_getLsbD v _ 50 (by decide), cellOf_getLsbD_50, cellOf_getLsbD_50, functionPortion_withUpperAddress]
    rfl

theorem replaceLower_cellOf (v : Addr) (w : Word) : replaceLower v (cellOf w) = cellOf (withLowerAddress w v) := by
  refine cell_ext ?_ ?_ ?_ ?_
  · rw [dataOf_replaceLower, dataOf_cellOf, dataOf_cellOf]
  · rw [replaceLower_getLsbD v _ 48 (by decide), cellOf_getLsbD_48 (withLowerAddress w v),
      lowerAddress_withLowerAddress]
    rfl
  · rw [replaceLower_getLsbD v _ 49 (by decide), cellOf_getLsbD_49, cellOf_getLsbD_49, upperAddress_withLowerAddress]
    rfl
  · rw [replaceLower_getLsbD v _ 50 (by decide), cellOf_getLsbD_50, cellOf_getLsbD_50, functionPortion_withLowerAddress]
    rfl

theorem badParity_eq_false_iff (c : Cell) : badParity c = false ↔ cellOf (dataOf c) = c := by simp [badParity]

theorem badParity_replaceUpper (v : Addr) (c : Cell) (h : badParity c = false) :
    badParity (replaceUpper v c) = false := by
  rw [← (badParity_eq_false_iff c).mp h, replaceUpper_cellOf, badParity_cellOf]

theorem badParity_replaceLower (v : Addr) (c : Cell) (h : badParity c = false) :
    badParity (replaceLower v c) = false := by
  rw [← (badParity_eq_false_iff c).mp h, replaceLower_cellOf, badParity_cellOf]

/-! ## The checked writes -/

/-- In bounds a checked write changes the word it names as asked, and no other (rule R67, rule R68). -/
theorem storeCell_writes (s : State) (a : Addr) (f : Cell → Cell) (ha : s.allowed a = true) (hp : s.present a = true) :
    ∃ t, storeCell s a f = .next t ∧ t.cell a = f (s.cell a) ∧ SameStorageBut a s t :=
  ⟨_, storeCell_done s a f ha hp, s.setCell_cell_same a _, fun x hx => s.setCell_cell_other a x _ hx⟩

/-- Settles O19: in bounds by what is written in the word (`storeCell_writes`), out of bounds by `storeCell_out`. -/
theorem checkedWrites : Obligations.CheckedWrites := by
  refine fun s a v w hp => ⟨fun ha => ⟨?word, ?upper, ?lower⟩, fun ha => ?out⟩
  case word =>
    obtain ⟨t, ht, hcell, hother⟩ := storeCell_writes s a (fun _ => cellOf w) ha hp
    exact ⟨t, ht, by rw [State.word, hcell, dataOf_cellOf], by rw [hcell, badParity_cellOf], hother⟩
  case upper =>
    obtain ⟨t, ht, hcell, hother⟩ := storeCell_writes s a (replaceUpper v) ha hp
    refine ⟨t, ht, hother, fun n hn => ?_, fun hgood => by rw [hcell, badParity_replaceUpper v _ hgood]⟩
    rw [State.word, hcell, dataOf_replaceUpper, withUpperAddress_getLsbD _ v n hn, State.word]
  case lower =>
    obtain ⟨t, ht, hcell, hother⟩ := storeCell_writes s a (replaceLower v) ha hp
    refine ⟨t, ht, hother, fun n hn => ?_, fun hgood => by rw [hcell, badParity_replaceLower v _ hgood]⟩
    rw [State.word, hcell, dataOf_replaceLower, withLowerAddress_getLsbD _ v n hn, State.word]
  case out =>
    simp only [List.forall_mem_cons]
    exact ⟨storeCell_out s a _ ha, storeCell_out s a _ ha, storeCell_out s a _ ha, List.forall_mem_nil _⟩

end Sys2Proof.Machine
end

section
/-! The decoder and the encoder undo each other (rule R91 to rule R97): each layout is taken apart into its fields and put
together again. What an illegal code is (rule R106) and what the decoder refuses (rule R107) follow from that. -/

namespace Sys2Proof.Machine

open Sys2Proof.Laws.EncodeWidth

/-! ## The fields of the layouts -/

theorem extract_low {n k : Nat} (x : BitVec n) (y : BitVec k) : (x ++ y).extractLsb' 0 k = y := by
  rw [BitVec.extractLsb'_append_eq_of_add_le (by omega), BitVec.extractLsb'_eq_self]

theorem extract_middle {n p k : Nat} (x : BitVec n) (y : BitVec p) (z : BitVec k) :
    (x ++ y ++ z).extractLsb' k p = y :=
  (extract_above (x ++ y) z 0 p).trans (extract_low x y)

/-- A field of a field. -/
theorem extract_extract {w : Nat} (x : BitVec w) {start len : Nat} (k n : Nat) (h : k + n ≤ len) :
    (x.extractLsb' start len).extractLsb' k n = x.extractLsb' (start + k) n := by
  refine BitVec.eq_of_getLsbD_eq fun i hi => ?_
  have hlt : k + i < len := by omega
  simp [hi, hlt, Nat.add_assoc]

theorem format1_designator (f : BitVec 6) (b : BitVec 3) (a : Addr) : (format1 f b a).extractLsb' 15 3 = b :=
  extract_middle f b a

theorem format1_address (f : BitVec 6) (b : BitVec 3) (a : Addr) : (format1 f b a).extractLsb' 0 15 = a :=
  extract_low (f ++ b) a

/-- In a register jump the designator is one bit, which makes it a return jump, and the condition (rule R91). -/
theorem format1_returns (f : BitVec 6) (r : BitVec 1) (j : BitVec 2) (a : Addr) :
    (format1 f (r ++ j) a).getLsbD 17 = r.getLsbD 0 := by
  rw [format1, BitVec.getLsbD_append, BitVec.getLsbD_append, BitVec.getLsbD_append]
  rfl

theorem format1_condition (f : BitVec 6) (r : BitVec 1) (j : BitVec 2) (a : Addr) :
    (format1 f (r ++ j) a).extractLsb' 15 2 = j :=
  (extract_above (f ++ (r ++ j)) a 0 2).trans <|
    (BitVec.extractLsb'_append_eq_of_add_le (by decide)).trans (extract_low r j)

section
variable (s : BitVec 3) (n : Addr) (x : BitVec 3) (m : Addr) (c : Byte12)

theorem format3_function : (format3 s n x m).extractLsb' 39 3 = s :=
  (extract_above _ m 24 3).trans <| (extract_above _ 0#3 21 3).trans <| (extract_above _ x 18 3).trans <|
    (extract_above _ 0#3 15 3).trans (extract_middle 0o74#6 s n)

theorem format3_reject : (format3 s n x m).extractLsb' 24 15 = n :=
  (extract_above _ m 9 15).trans <| (extract_above _ 0#3 6 15).trans <|
    (extract_above _ x 3 15).trans (extract_middle (0o74#6 ++ s) n 0#3)

theorem format3_unusedHigh : (format3 s n x m).extractLsb' 21 3 = 0#3 :=
  (extract_above _ m 6 3).trans <| (extract_above _ 0#3 3 3).trans (extract_middle (0o74#6 ++ s ++ n) 0#3 x)

theorem format3_channel : (format3 s n x m).extractLsb' 18 3 = x :=
  (extract_above _ m 3 3).trans (extract_middle (0o74#6 ++ s ++ n ++ 0#3) x 0#3)

theorem format3_unusedLow : (format3 s n x m).extractLsb' 15 3 = 0#3 :=
  extract_middle (0o74#6 ++ s ++ n ++ 0#3 ++ x) 0#3 m

theorem format3_address : (format3 s n x m).extractLsb' 0 15 = m :=
  extract_low (0o74#6 ++ s ++ n ++ 0#3 ++ x ++ 0#3) m

/-- CONN and EXTF have a third unused field above their code (rule R93). -/
theorem format3_unusedCode : (format3 s n x (0#3 ++ c)).extractLsb' 12 3 = 0#3 :=
  (BitVec.extractLsb'_append_eq_of_add_le (by decide)).trans <|
    (extract_above 0#3 c 0 3).trans BitVec.extractLsb'_eq_self

theorem format3_code : (format3 s n x (0#3 ++ c)).extractLsb' 0 12 = c :=
  (BitVec.extractLsb'_append_eq_of_add_le (by decide)).trans (extract_low 0#3 c)
end

/-- The 0006, the 50 and the digit of LDC and STC make one field (rule R94). -/
theorem operation_fields (u : Word) :
    u.extractLsb' 24 12 ++ u.extractLsb' 18 6 ++ u.extractLsb' 15 3 = u.extractLsb' 15 21 := by
  rw [BitVec.extractLsb'_append_extractLsb'_eq_extractLsb' (by decide),
    BitVec.extractLsb'_append_extractLsb'_eq_extractLsb' (by decide)]

section
variable (b v d : BitVec 3) (m : Addr)

theorem format4_designator : (format4 b v d m).extractLsb' 39 3 = b :=
  (extract_above _ m 24 3).trans <| (extract_above _ d 21 3).trans <| (extract_above _ 0o50#6 15 3).trans <|
    (extract_above _ 0o0006#12 3 3).trans (extract_middle 0o63#6 b v)

theorem format4_index : (format4 b v d m).extractLsb' 36 3 = v :=
  (extract_above _ m 21 3).trans <| (extract_above _ d 18 3).trans <|
    (extract_above _ 0o50#6 12 3).trans (extract_middle (0o63#6 ++ b) v 0o0006#12)

theorem format4_operation : (format4 b v d m).extractLsb' 15 21 = 0o0006#12 ++ 0o50#6 ++ d := by
  have hfixed : (format4 b v d m).extractLsb' 24 12 = 0o0006#12 :=
    (extract_above _ m 9 12).trans <| (extract_above _ d 6 12).trans (extract_middle (0o63#6 ++ b ++ v) 0o0006#12 0o50#6)
  have hfive : (format4 b v d m).extractLsb' 18 6 = 0o50#6 :=
    (extract_above _ m 3 6).trans (extract_middle (0o63#6 ++ b ++ v ++ 0o0006#12) 0o50#6 d)
  have hdigit : (format4 b v d m).extractLsb' 15 3 = d :=
    extract_middle (0o63#6 ++ b ++ v ++ 0o0006#12 ++ 0o50#6) d m
  rw [← operation_fields, hfixed, hfive, hdigit]

theorem format4_address : (format4 b v d m).extractLsb' 0 15 = m :=
  extract_low (0o63#6 ++ b ++ v ++ 0o0006#12 ++ 0o50#6 ++ d) m
end

/-! ## The layouts put together from their fields -/

/-- A code is its highest bits and the rest. -/
theorem append_rest {n k : Nat} {x : BitVec (n + k)} {t : BitVec n} (h : x.extractLsb' k n = t) :
    t ++ x.extractLsb' 0 k = x := by
  rw [← h, BitVec.extractLsb'_append_extractLsb'_eq_extractLsb' (by omega), BitVec.extractLsb'_eq_self]

theorem format1_fields {w : HalfWord} {f : Nat} (h : (w.extractLsb' 18 6).toNat = f) :
    format1 (BitVec.ofNat 6 f) (w.extractLsb' 15 3) (w.extractLsb' 0 15) = w := by
  rw [← h, BitVec.ofNat_toNat, BitVec.setWidth_eq, format1,
    BitVec.extractLsb'_append_extractLsb'_eq_extractLsb' (by decide),
    BitVec.extractLsb'_append_extractLsb'_eq_extractLsb' (by decide), BitVec.extractLsb'_eq_self]

theorem jump_designator_fields {w : HalfWord} {r : Bool} (h : w.getLsbD 17 = r) :
    BitVec.ofBool r ++ w.extractLsb' 15 2 = w.extractLsb' 15 3 := by
  have hbit : w.extractLsb' 17 1 = BitVec.ofBool r := by
    refine BitVec.eq_of_getLsbD_eq fun i hi => ?_
    obtain rfl : i = 0 := by omega
    simpa using h
  rw [← hbit, BitVec.extractLsb'_append_extractLsb'_eq_extractLsb' (by decide)]

theorem format3_fields {u : Word} (hf : u.extractLsb' 42 6 = 0o74#6) (hhigh : u.extractLsb' 21 3 = 0#3)
    (hlow : u.extractLsb' 15 3 = 0#3) :
    format3 (u.extractLsb' 39 3) (u.extractLsb' 24 15) (u.extractLsb' 18 3) (u.extractLsb' 0 15) = u :=
  calc
    _ = u.extractLsb' 42 6 ++ u.extractLsb' 39 3 ++ u.extractLsb' 24 15 ++ u.extractLsb' 21 3 ++ u.extractLsb' 18 3 ++
          u.extractLsb' 15 3 ++ u.extractLsb' 0 15 := by rw [hf, hhigh, hlow, format3]
    _ = u.extractLsb' 0 48 := by
      iterate 6 rw [BitVec.extractLsb'_append_extractLsb'_eq_extractLsb' (by decide)]
    _ = u := BitVec.extractLsb'_eq_self

theorem format3_code_fields {u : Word} (h : u.extractLsb' 12 3 = 0#3) :
    0#3 ++ u.extractLsb' 0 12 = u.extractLsb' 0 15 := by
  rw [← h, BitVec.extractLsb'_append_extractLsb'_eq_extractLsb' (by decide)]

theorem format4_fields {u : Word} {d : BitVec 3} (hf : u.extractLsb' 42 6 = 0o63#6)
    (hop : u.extractLsb' 15 21 = 0o0006#12 ++ 0o50#6 ++ d) :
    format4 (u.extractLsb' 39 3) (u.extractLsb' 36 3) d (u.extractLsb' 0 15) = u := by
  have hfixed : u.extractLsb' 24 12 = 0o0006#12 := by
    rw [← extract_extract (start := 15) u (len := 21) 9 12 (by decide), hop]
    exact (extract_above _ d 6 12).trans (extract_above 0o0006#12 0o50#6 0 12)
  have hfive : u.extractLsb' 18 6 = 0o50#6 := by
    rw [← extract_extract (start := 15) u (len := 21) 3 6 (by decide), hop]
    exact extract_middle 0o0006#12 0o50#6 d
  have hdigit : u.extractLsb' 15 3 = d := by
    rw [← extract_extract (start := 15) u (len := 21) 0 3 (by decide), hop]
    exact extract_low _ d
  calc
    _ = u.extractLsb' 42 6 ++ u.extractLsb' 39 3 ++ u.extractLsb' 36 3 ++ u.extractLsb' 24 12 ++ u.extractLsb' 18 6 ++
          u.extractLsb' 15 3 ++ u.extractLsb' 0 15 := by rw [hf, hfixed, hfive, hdigit, format4]
    _ = u.extractLsb' 0 48 := by
      iterate 6 rw [BitVec.extractLsb'_append_extractLsb'_eq_extractLsb' (by decide)]
    _ = u := BitVec.extractLsb'_eq_self

/-- The function code of Class III and its digit make one field. -/
theorem classThree_digit (u : Word) : u.extractLsb' 42 6 ++ u.extractLsb' 39 3 = u.extractLsb' 39 9 :=
  BitVec.extractLsb'_append_extractLsb'_eq_extractLsb' rfl

/-! ## The decoder by the function code (rule R105) -/

theorem decodeHalf_zero {w : HalfWord} (h : w.extractLsb' 18 6 = 0o00#6) : decodeHalf w = decodeZero w := by
  rw [decodeHalf, h]
  rfl

/-- The two function codes of 48-bit instructions mean nothing in a half (rule R97). -/
theorem decodeHalf_long {w : HalfWord} (h : w.extractLsb' 18 6 = 0o63#6 ∨ w.extractLsb' 18 6 = 0o74#6) :
    decodeHalf w = .error (.longInLowerHalf w) := by
  rcases h with h | h
  all_goals
    rw [decodeHalf, h]
    rfl

theorem decodeUpper_classThree {u : Word} (h : u.extractLsb' 42 6 = 0o74#6) : decodeUpper u = decodeClassThree u := by
  rw [decodeUpper, h]
  rfl

theorem decodeUpper_character {u : Word} (h : u.extractLsb' 42 6 = 0o63#6) : decodeUpper u = decodeCharacter u := by
  rw [decodeUpper, h]
  rfl

theorem decodeUpper_half {u : Word} (h63 : u.extractLsb' 42 6 ≠ 0o63#6) (h74 : u.extractLsb' 42 6 ≠ 0o74#6) :
    decodeUpper u = decodeHalf (u.extractLsb' 24 24) := by
  unfold decodeUpper
  split
  case h_1 h => exact absurd (BitVec.eq_of_toNat_eq h) h74
  case h_2 h => exact absurd (BitVec.eq_of_toNat_eq h) h63
  case h_3 => rfl

/-! ## What is decoded is encoded back -/

/-- What is decoded under a condition shows that the condition holds. -/
theorem of_ite_error_eq_ok {c : Prop} [Decidable c] {i j : Instr} {e : DecodeError}
    (h : (if c then .ok j else .error e) = Decoded.ok i) : c ∧ j = i := by
  split at h
  case isTrue hc => exact ⟨hc, Decoded.ok.inj h⟩
  case isFalse => cases h

theorem encode_of_decodeZero {w : HalfWord} {i : Instr} (h : decodeZero w = .ok i) : encode i = .half w := by
  unfold decodeZero at h
  split at h
  case isTrue hw =>
    cases h
    rw [hw]
    rfl
  case isFalse =>
    obtain ⟨hw, rfl⟩ := of_ite_error_eq_ok h
    rw [encode, show 0o0074054#21 = w.extractLsb' 3 21 from hw.symm,
      BitVec.extractLsb'_append_extractLsb'_eq_extractLsb' (by decide), BitVec.extractLsb'_eq_self]

/-- A digit chosen by a designator stands in the code as that designator (rule R92, rule R247 to rule R250). -/
theorem encode_selectiveJump (j : BitVec 3) (a : Addr) : encode (selectiveJump j a) = .half (format1 0o75 j a) := by
  rcases designator_cases j with rfl | rfl | rfl | rfl | rfl | rfl | rfl | rfl
  all_goals rfl

theorem encode_selectiveStop (j : BitVec 3) (a : Addr) : encode (selectiveStop j a) = .half (format1 0o76 j a) := by
  rcases designator_cases j with rfl | rfl | rfl | rfl | rfl | rfl | rfl | rfl
  all_goals rfl

theorem encode_classTwo (j : BitVec 3) (a : Addr) : encode (classTwo j a) = .half (format1 0o77 j a) := by
  rcases designator_cases j with rfl | rfl | rfl | rfl | rfl | rfl | rfl | rfl
  all_goals rfl

/-- A register jump, return jump or not, is encoded with the designator it was read from. -/
theorem encode_registerJump {w : HalfWord} {i normal linked : Instr} {f : Nat}
    (hf : (w.extractLsb' 18 6).toNat = f)
    (hl : encode linked = .half (format1 (BitVec.ofNat 6 f) (1#1 ++ w.extractLsb' 15 2) (w.extractLsb' 0 15)))
    (hn : encode normal = .half (format1 (BitVec.ofNat 6 f) (0#1 ++ w.extractLsb' 15 2) (w.extractLsb' 0 15)))
    (h : (if w.getLsbD 17 then .ok linked else .ok normal) = Decoded.ok i) : encode i = .half w := by
  split at h
  case isTrue hbit =>
    cases h
    rw [hl, show 1#1 = BitVec.ofBool true from rfl, jump_designator_fields hbit, format1_fields hf]
  case isFalse hbit =>
    cases h
    rw [hn, show 0#1 = BitVec.ofBool false from rfl, jump_designator_fields (by simpa using hbit), format1_fields hf]

/-- Each function code by the layout it has (rule R91, rule R92, rule R105). -/
theorem encode_of_decodeHalf {w : HalfWord} {i : Instr} (h : decodeHalf w = .ok i) : encode i = .half w := by
  unfold decodeHalf at h
  dsimp only at h
  split at h
  case h_1 => exact encode_of_decodeZero h
  case h_19 hf | h_20 hf => exact encode_registerJump hf rfl rfl h
  case h_23 hf | h_24 hf | h_51 hf =>
    cases h
    exact congrArg Code.half (append_rest (n := 6) (BitVec.eq_of_toNat_eq hf))
  case h_60 hf =>
    cases h
    exact (encode_selectiveJump _ _).trans (congrArg Code.half (format1_fields hf))
  case h_61 hf =>
    cases h
    exact (encode_selectiveStop _ _).trans (congrArg Code.half (format1_fields hf))
  case h_62 hf =>
    cases h
    exact (encode_classTwo _ _).trans (congrArg Code.half (format1_fields hf))
  case h_63 => cases h
  all_goals
    cases h
    exact congrArg Code.half (format1_fields ‹_›)

/-- A Class III word whose unused fields are zero (rule R93). -/
theorem classThree_fields {u : Word} {s : Nat} (hf : u.extractLsb' 42 6 = 0o74#6) (hs : (u.extractLsb' 39 3).toNat = s)
    (hzero : u.extractLsb' 21 3 = 0#3 ∧ u.extractLsb' 15 3 = 0#3) :
    format3 (BitVec.ofNat 3 s) (u.extractLsb' 24 15) (u.extractLsb' 18 3) (u.extractLsb' 0 15) = u := by
  rw [← hs, BitVec.ofNat_toNat, BitVec.setWidth_eq, format3_fields hf hzero.1 hzero.2]

/-- Class III by its digit (rule R93); 74.7 keeps every bit but its code (rule R106). -/
theorem encode_of_decodeClassThree {u : Word} {i : Instr} (hf : u.extractLsb' 42 6 = 0o74#6)
    (h : decodeClassThree u = .ok i) : encode i = .full u := by
  unfold decodeClassThree at h
  simp only [Bool.and_eq_true, decide_eq_true_eq] at h
  split at h
  case h_1 hs | h_2 hs =>
    obtain ⟨⟨hzero, hcode⟩, rfl⟩ := of_ite_error_eq_ok h
    rw [encode, format3_code_fields hcode]
    exact congrArg Code.full (classThree_fields hf hs hzero)
  case h_3 hs | h_4 hs | h_5 hs | h_6 hs | h_7 hs =>
    obtain ⟨hzero, rfl⟩ := of_ite_error_eq_ok h
    exact congrArg Code.full (classThree_fields hf hs hzero)
  case h_8 h0 h1 h2 h3 h4 h5 h6 =>
    cases h
    have hlt : (u.extractLsb' 39 3).toNat < 8 := BitVec.isLt _
    rw [imp_false] at h0 h1 h2 h3 h4 h5 h6
    have hseven : u.extractLsb' 39 3 = 7#3 := BitVec.eq_of_toNat_eq (show (u.extractLsb' 39 3).toNat = 7 by omega)
    exact congrArg Code.full (append_rest (n := 9) (by rw [← classThree_digit, hf, hseven]; rfl))

theorem encode_of_decodeCharacter {u : Word} {i : Instr} (hf : u.extractLsb' 42 6 = 0o63#6)
    (h : decodeCharacter u = .ok i) : encode i = .full u := by
  unfold decodeCharacter at h
  dsimp only at h
  split at h
  case isTrue hop =>
    cases h
    exact congrArg Code.full (format4_fields hf hop)
  case isFalse =>
    obtain ⟨hop, rfl⟩ := of_ite_error_eq_ok h
    exact congrArg Code.full (format4_fields hf hop)

/-- Settles O3, by the function code: a half, or one of the two codes of 48 bits. -/
theorem encodeOfDecode : Obligations.EncodeOfDecode := by
  refine ⟨fun w i => encode_of_decodeHalf, fun u i h => ?_⟩
  by_cases h74 : u.extractLsb' 42 6 = 0o74#6
  · rw [decodeUpper_classThree h74] at h
    exact .inl (encode_of_decodeClassThree h74 h)
  by_cases h63 : u.extractLsb' 42 6 = 0o63#6
  · rw [decodeUpper_character h63] at h
    exact .inl (encode_of_decodeCharacter h63 h)
  · rw [decodeUpper_half h63 h74] at h
    exact .inr (encode_of_decodeHalf h)

/-! ## What is encoded is decoded again -/

/-- Each 24-bit instruction by its layout (rule R91, rule R92, rule R95). -/
theorem decodeHalf_of_encode {i : Instr} {w : HalfWord} (h : encode i = .half w) : decodeHalf w = .ok i := by
  cases i with
  | iaq =>
    cases h
    rfl
  | ati b =>
    cases h
    revert b
    decide
  | ars b a | qrs b a | lrs b a | enq b a | als b a | qls b a | lls b a | ena b a | ina b a | lda b a | lac b a
  | add b a | sub b a | ldq b a | lqc b a | sta b a | stq b a | mui b a | dvi b a | fad b a | fsb b a | fmu b a
  | fdv b a | sca b a | scq b a | ssk b a | ssh b a | sst b a | scl b a | scm b a | ssu b a | ldl b a | adl b a
  | sbl b a | stl b a | eni b a | ini b a | liu b a | lil b a | isk b a | ijp b a | siu b a | sil b a | sau b a
  | sal b a | eqs b a | ths b a | meq b a | mth b a | rad b a | rsb b a | rao b a | rso b a
  | slj a | sj1 a | sj2 a | sj3 a | rtj a | rj1 a | rj2 a | rj3 a | sls a | ss1 a | ss2 a | ss3 a | srj a | sr1 a
  | sr2 a | sr3 a | inf a | aug a | cis a | sen a | cpr a | eub a | elb a | ill777 a =>
    cases h
    rw [decodeHalf, format1_top, format1_designator, format1_address]
    rfl
  | ajp j m | arj j m | qjp j m | qrj j m =>
    cases h
    rw [decodeHalf, format1_top, format1_returns, format1_condition, format1_address]
    rfl
  | ill26 r | ill27 r | undef62 r =>
    cases h
    rw [decodeHalf, code_top, extract_low]
    rfl
  | conn n x c | extf n x c | begr n x m | begw n x m | copy n x m | clch n x m | ccwd n x m | ill747 r | ldc b v m
  | stc b v m => cases h

theorem decodeHalf_eq_ok_iff (w : HalfWord) (i : Instr) : decodeHalf w = .ok i ↔ encode i = .half w :=
  ⟨encode_of_decodeHalf, decodeHalf_of_encode⟩

/-- Each 48-bit instruction by its layout (rule R93, rule R94, rule R106). -/
theorem decodeUpper_of_encode_full {i : Instr} {u : Word} (h : encode i = .full u) : decodeUpper u = .ok i := by
  cases i with
  | conn n x c | extf n x c =>
    cases h
    rw [decodeUpper_classThree (format3_top _ _ _ _), decodeClassThree, format3_function, format3_reject,
      format3_channel, format3_unusedHigh, format3_unusedLow, format3_unusedCode, format3_code]
    rfl
  | begr n x m | begw n x m | copy n x m | clch n x m | ccwd n x m =>
    cases h
    rw [decodeUpper_classThree (format3_top _ _ _ _), decodeClassThree, format3_function, format3_reject,
      format3_channel, format3_unusedHigh, format3_unusedLow, format3_address]
    rfl
  | ill747 r =>
    cases h
    have hf : (0o747#9 ++ r : Word).extractLsb' 42 6 = 0o74#6 := extract_above 0o747#9 r 3 6
    have hs : (0o747#9 ++ r : Word).extractLsb' 39 3 = 7#3 := extract_above 0o747#9 r 0 3
    rw [decodeUpper_classThree hf, decodeClassThree, hs, extract_low]
    rfl
  | ldc b v m | stc b v m =>
    cases h
    rw [decodeUpper_character (format4_top _ _ _ _), decodeCharacter, format4_operation, format4_designator,
      format4_index, format4_address]
    rfl
  | _ => cases h

/-- A half decoded by itself is decoded at the upper half of a step as well: no instruction's function code is one of
the two of 48-bit instructions (rule R96). -/
theorem decodeUpper_eq_ok_of_half {u : Word} {i : Instr} (h : decodeHalf (u.extractLsb' 24 24) = .ok i) :
    decodeUpper u = .ok i := by
  have hf : (u.extractLsb' 24 24).extractLsb' 18 6 = u.extractLsb' 42 6 := extract_extract u 18 6 (by decide)
  rw [decodeUpper_half, h]
  · intro h63
    rw [decodeHalf_long (.inl (hf.trans h63))] at h
    cases h
  · intro h74
    rw [decodeHalf_long (.inr (hf.trans h74))] at h
    cases h

/-- Settles O2, by the length of the code. -/
theorem decodeOfEncode : Obligations.DecodeOfEncode := by
  intro i
  cases h : encode i with
  | half w =>
    refine decodeUpper_eq_ok_of_half ?_
    rw [Code.upperStep, BitVec.extractLsb'_append_eq_left]
    exact decodeHalf_of_encode h
  | full u => exact decodeUpper_of_encode_full h

theorem decodeUpper_eq_ok_iff (u : Word) (i : Instr) :
    decodeUpper u = .ok i ↔ encode i = .full u ∨ encode i = .half (u.extractLsb' 24 24) := by
  refine ⟨encodeOfDecode.2 u i, ?_⟩
  rintro (h | h)
  · exact decodeUpper_of_encode_full h
  · exact decodeUpper_eq_ok_of_half (decodeHalf_of_encode h)

/-! ## The illegal codes -/

theorem isIllegal_iff (i : Instr) :
    isIllegal i = true ↔ (∃ r, i = .ill26 r) ∨ (∃ r, i = .ill27 r) ∨ (∃ r, i = .ill777 r) ∨ ∃ r, i = .ill747 r := by
  cases i <;> simp [isIllegal]

/-- The illegal 24-bit codes (rule R106). -/
theorem encode_half_illegal_iff (w : HalfWord) :
    (∃ i, encode i = .half w ∧ isIllegal i = true) ↔
      w.extractLsb' 18 6 = 0o26#6 ∨ w.extractLsb' 18 6 = 0o27#6 ∨ w.extractLsb' 15 9 = 0o777#9 := by
  have hdigit : w.extractLsb' 18 6 ++ w.extractLsb' 15 3 = w.extractLsb' 15 9 :=
    BitVec.extractLsb'_append_extractLsb'_eq_extractLsb' rfl
  constructor
  · rintro ⟨i, he, hi⟩
    rcases (isIllegal_iff i).mp hi with ⟨r, rfl⟩ | ⟨r, rfl⟩ | ⟨r, rfl⟩ | ⟨r, rfl⟩
    · cases he
      exact .inl (code_top _ _)
    · cases he
      exact .inr (.inl (code_top _ _))
    · cases he
      refine .inr (.inr ?_)
      rw [← hdigit, format1_top, format1_designator]
      rfl
    · cases he
  · rintro (h | h | h)
    · exact ⟨.ill26 (w.extractLsb' 0 18), congrArg Code.half (append_rest (n := 6) h), rfl⟩
    · exact ⟨.ill27 (w.extractLsb' 0 18), congrArg Code.half (append_rest (n := 6) h), rfl⟩
    · exact ⟨.ill777 (w.extractLsb' 0 15), congrArg Code.half (append_rest (n := 9) h), rfl⟩

/-- The illegal 48-bit codes (rule R106). -/
theorem encode_full_illegal_iff (u : Word) :
    (∃ i, encode i = .full u ∧ isIllegal i = true) ↔ u.extractLsb' 39 9 = 0o747#9 := by
  constructor
  · rintro ⟨i, he, hi⟩
    rcases (isIllegal_iff i).mp hi with ⟨r, rfl⟩ | ⟨r, rfl⟩ | ⟨r, rfl⟩ | ⟨r, rfl⟩ <;> cases he
    exact BitVec.extractLsb'_append_eq_left
  · exact fun h => ⟨.ill747 (u.extractLsb' 0 39), congrArg Code.full (append_rest (n := 9) h), rfl⟩

/-- Settles O4: by O2 and O3 the codes decoded to illegal instructions are the codes of illegal instructions. -/
theorem illegalCodes : Obligations.IllegalCodes := by
  refine ⟨fun w => ?_, fun u => ?_⟩
  · simp only [decodeHalf_eq_ok_iff, encode_half_illegal_iff]
  · simp only [decodeUpper_eq_ok_iff, or_and_right, exists_or, encode_full_illegal_iff, encode_half_illegal_iff,
      extract_extract u 18 6 (show 18 + 6 ≤ 24 by decide), extract_extract u 15 9 (show 15 + 9 ≤ 24 by decide)]
    tauto

/-- Settles O1: each word is read by the decoder as it stands. -/
theorem decodeWords : Obligations.DecodeWords := by
  unfold Obligations.DecodeWords
  decide

/-! ## What the decoder refuses -/

/-- The unused fields of a Class III instruction are zero (rule R93). -/
theorem unusedFields_eq_zero {i : Instr} {u : Word} (h : encode i = .full u) (hf : u.extractLsb' 42 6 = 0o74#6)
    (h7 : u.extractLsb' 39 3 ≠ 7#3) :
    u.extractLsb' 21 3 = 0#3 ∧ u.extractLsb' 15 3 = 0#3 ∧
      (u.extractLsb' 39 3 = 0#3 ∨ u.extractLsb' 39 3 = 1#3 → u.extractLsb' 12 3 = 0#3) := by
  cases i with
  | conn n x c | extf n x c =>
    cases h
    exact ⟨format3_unusedHigh _ _ _ _, format3_unusedLow _ _ _ _, fun _ => format3_unusedCode _ _ _ _⟩
  | begr n x m | begw n x m | copy n x m | clch n x m | ccwd n x m =>
    cases h
    rw [format3_function]
    exact ⟨format3_unusedHigh _ _ _ _, format3_unusedLow _ _ _ _, fun hs => absurd hs (by decide)⟩
  | ill747 r =>
    cases h
    exact absurd (extract_above 0o747#9 r 0 3) h7
  | ldc b v m | stc b v m =>
    cases h
    rw [format4_top] at hf
    exact absurd hf (by decide)
  | _ => cases h

theorem decodeHalf_undefinedZero {w : HalfWord} (hf : w.extractLsb' 18 6 = 0o00#6) (hiaq : w ≠ 0o00700554)
    (hati : w.extractLsb' 3 21 ≠ 0o0074054) : decodeHalf w = .error (.undefinedZero w) := by
  rw [decodeHalf_zero hf, decodeZero, if_neg hiaq, if_neg hati]

theorem decodeUpper_undefinedCharacter {u : Word} (hf : u.extractLsb' 42 6 = 0o63#6)
    (hldc : u.extractLsb' 15 21 ≠ 0o0006500) (hstc : u.extractLsb' 15 21 ≠ 0o0006505) :
    decodeUpper u = .error (.undefinedCharacter u) := by
  rw [decodeUpper_character hf]
  exact (if_neg hldc).trans (if_neg hstc)

theorem decodeLower_long {u : Word} (hf : u.extractLsb' 18 6 = 0o63#6 ∨ u.extractLsb' 18 6 = 0o74#6) :
    decodeLower u = .error (.longInLowerHalf (u.extractLsb' 0 24)) :=
  decodeHalf_long (by rwa [extract_extract u 18 6 (by decide)])

theorem decodeUpper_unusedField {u : Word} (hf : u.extractLsb' 42 6 = 0o74#6) (h7 : u.extractLsb' 39 3 ≠ 7#3)
    (hset : u.extractLsb' 21 3 ≠ 0#3 ∨ u.extractLsb' 15 3 ≠ 0#3 ∨
      ((u.extractLsb' 39 3 = 0#3 ∨ u.extractLsb' 39 3 = 1#3) ∧ u.extractLsb' 12 3 ≠ 0#3)) :
    ∃ e, decodeUpper u = .error e := by
  cases hd : decodeUpper u with
  | error e => exact ⟨e, rfl⟩
  | ok i =>
    rw [decodeUpper_classThree hf] at hd
    obtain ⟨hhigh, hlow, hcode⟩ := unusedFields_eq_zero (encode_of_decodeClassThree hf hd) hf h7
    tauto

end Sys2Proof.Machine
end

section
/-! What the spec leaves undefined stops (rule R107): the codes in the step that reads them, the operands in the meanings
of their instructions (file 93, U1 to U8). -/

namespace Sys2Proof.Machine

/-! ## What the step refuses -/

/-- A good program step is read whether or not it is in bounds (rule R461). -/
theorem fetch_reads {s : State} (hp : s.present s.p = true) (hg : badParity (s.cell s.p) = false) :
    ∃ ir, fetch s = .next { s with aug := none, u := s.word s.p, irLatch := ir } := by
  by_cases ha : s.allowed s.p = true
  · exact ⟨_, fetch_good s hp ha hg⟩
  · refine ⟨setBit s.irLatch 42, ?_⟩
    have ha' : ¬({ s with aug := none } : State).allowed s.p = true := ha
    simp only [fetch, ha']
    exact loadU_good ({ s with aug := none } : State).violation hp hg

theorem step_undefined_upper {s : State} {e : DecodeError} (hs : s.Alone) (hr : s.run = .running) (hh : s.h = .upper)
    (hp : s.present s.p = true) (hg : badParity (s.cell s.p) = false) (he : decodeUpper (s.word s.p) = .error e) :
    step s = .refused (.undefinedEncoding e) := by
  obtain ⟨hin, hq⟩ := hs
  obtain ⟨ir, hf⟩ := fetch_reads hp hg
  rw [step_computer s hin, act_running s hr, runInstruction_read s _ hh hf (by simp [State.isRunning, hr]) hq, he,
    runDecoded]

theorem step_undefined_lower {s : State} {e : DecodeError} (hs : s.Alone) (hr : s.run = .running) (hh : s.h = .lower)
    (he : decodeLower s.u = .error e) : step s = .refused (.undefinedEncoding e) := by
  rw [step_computer s hs.1, act_running s hr, runInstruction, hh]
  simp only [he, runDecoded]

/-! ## What the meanings refuse -/

/-- An address by its upper nine bits and its two lowest octal digits, as the codes of INF and SEN are written. -/
theorem toNat_octal (y : Addr) :
    y.toNat = (y.extractLsb' 6 9).toNat * 64 + (y.extractLsb' 3 3).toNat * 8 + (y.extractLsb' 0 3).toNat := by
  simp only [BitVec.extractLsb'_toNat, Nat.shiftRight_eq_div_pow]
  have := y.isLt
  omega

/-- The codes with an operation are listed: the codes of each table, one by one (rule R266 to rule R276). -/
theorem mem_infCodes_of_infOperation (y : Addr) (h : (infOperation y).isSome = true) : y.toNat ∈ infCodes := by
  have hn : (y.extractLsb' 3 3).toNat < 8 := BitVec.isLt _
  have he : (y.extractLsb' 0 3).toNat < 8 := BitVec.isLt _
  rw [toNat_octal y]
  unfold infOperation at h
  generalize (y.extractLsb' 3 3).toNat = n at hn h ⊢
  generalize (y.extractLsb' 0 3).toNat = e at he h ⊢
  dsimp only at h
  split at h
  case h_8 => cases h
  all_goals
    rename_i hg
    rw [hg]
    revert n e
    decide

/-- The codes with a condition are listed (rule R277): in each group the digits are those of the table. -/
theorem mem_senCodes_of_senseCondition (s : State) (y : Addr) (h : (senseCondition s y).isSome = true) :
    y.toNat ∈ senCodes := by
  have hn : (y.extractLsb' 3 3).toNat < 8 := BitVec.isLt _
  have he : (y.extractLsb' 0 3).toNat < 8 := BitVec.isLt _
  rw [toNat_octal y]
  unfold senseCondition at h
  generalize (y.extractLsb' 3 3).toNat = n at hn h ⊢
  generalize (y.extractLsb' 0 3).toNat = e at he h ⊢
  dsimp only at h
  split at h
  case h_4 => cases h
  all_goals
    rename_i hg
    rw [hg]
    simp only [apply_ite Option.isSome, Option.isSome_some, Option.isSome_none] at h
    revert n e
    decide

theorem execInf_unlisted (y : Addr) (s : State) (h : y.toNat ∉ infCodes) :
    exec (.inf y) s = .refused (.undefinedFunction y) := by
  have hnone : infOperation y = none :=
    Option.not_isSome_iff_eq_none.mp fun hs => h (mem_infCodes_of_infOperation y hs)
  rw [exec, execInf, hnone]

theorem execSen_unlisted (y : Addr) (s : State) (hh : s.h = .upper) (h : y.toNat ∉ senCodes) :
    exec (.sen y) s = .refused (.undefinedSense y) := by
  have hnone : senseCondition s y = none :=
    Option.not_isSome_iff_eq_none.mp fun hs => h (mem_senCodes_of_senseCondition s y hs)
  rw [exec, execSen, hh, hnone]

theorem execAti_undefined (b : BitVec 3) (s : State) (h : b = 0 ∨ b = 7) :
    exec (.ati b) s = .refused .undefinedIndex := by
  rcases h with rfl | rfl
  all_goals rfl

/-- A selector in the table is a multiple of 6 up to 42, in a register that exists (rule R260). -/
theorem selectorListed_eq_false {s : State} {v : BitVec 3}
    (h : v = 0 ∨ v = 7 ∨ (s.index v).toNat ∉ [0, 6, 12, 18, 24, 30, 36, 42]) : selectorListed s v = false := by
  rcases h with rfl | rfl | h
  · rfl
  · rfl
  · rw [← Bool.not_eq_true]
    intro hl
    simp only [selectorListed, Bool.and_eq_true, decide_eq_true_eq] at hl
    obtain ⟨⟨-, hsix⟩, hle⟩ := hl
    simp only [List.mem_cons, List.not_mem_nil] at h
    omega

theorem withChannel_notInstalled {s : State} {x : BitVec 3} (h : s.params.nchan ≤ x.toNat)
    (rest : Nat → Channel → Res State) : withChannel s x rest = .refused .channelNotInstalled :=
  if_neg (not_lt.mpr h)

theorem execCharacter_unlisted (s : State) (b v : BitVec 3) (m : Addr)
    (h : v = 0 ∨ v = 7 ∨ (s.index v).toNat ∉ [0, 6, 12, 18, 24, 30, 36, 42]) :
    exec (.ldc b v m) s = .refused .undefinedSelector ∧ exec (.stc b v m) s = .refused .undefinedSelector := by
  rw [exec, exec, execLdc, execStc, selectorListed_eq_false h]
  exact ⟨rfl, rfl⟩

/-- Every Class III instruction asks for its channel first (rule R306). -/
theorem execClassThree_notInstalled (s : State) (n : Addr) (x : BitVec 3) (c : Byte12) (m : Addr)
    (h : s.params.nchan ≤ x.toNat) :
    ∀ i ∈ [Instr.conn n x c, .extf n x c, .begr n x m, .begw n x m, .copy n x m, .clch n x m, .ccwd n x m],
      exec i s = .refused .channelNotInstalled := by
  simp only [List.forall_mem_cons, exec, execConn, execExtf, execBegr, execBegw, execCopy, execClch, execCcwd,
    withChannel_notInstalled h, true_and]
  exact List.forall_mem_nil _

/-- Settles O50: what the decoder refuses by the function codes and the unused fields, what the step refuses with it,
and what the meanings refuse one by one. -/
theorem undefinedStops : Obligations.UndefinedStops := by
  refine ⟨fun w hf hiaq hati => ⟨_, decodeHalf_undefinedZero hf hiaq hati⟩,
    fun u hf hldc hstc => ⟨_, decodeUpper_undefinedCharacter hf hldc hstc⟩,
    fun u hf => ⟨_, decodeLower_long hf⟩,
    fun u hf h7 hset => decodeUpper_unusedField hf h7 hset,
    fun s e hs hr => ⟨step_undefined_upper hs hr, step_undefined_lower hs hr⟩,
    fun s => ⟨fun _ => rfl, fun b => execAti_undefined b s, fun y => execInf_unlisted y s,
      fun y => execSen_unlisted y s, execCharacter_unlisted s, execClassThree_notInstalled s⟩⟩

end Sys2Proof.Machine
end

section
/-! Indirect addressing (rule R101): what one reading of it does, and that a chain which ends at all ends before it has
read more words than storage has, because the addresses from which it ends within n words grow with n until they stay the
same (decision D3; file 93, U12). -/

namespace Sys2Proof.Machine

/-! ## One reading -/

/-- With no other agent acting, a reading notes bad parity and goes on with the designator and address it has read. -/
theorem resolveFrom_read {s : State} {m : Addr} (n : Nat) (hq : s.Quiet) (hp : s.present m = true) :
    resolveFrom (n + 1) 7 m s =
      resolveFrom n ((s.word m).extractLsb' 15 3) (lowerAddress (s.word m)) (s.noteParity m) := by
  rw [resolveFrom, if_pos rfl, withRead_present s m _ hp, gap_quiet (s.noteParity m) hq, andThen_next]

theorem resolveFrom_direct (n : Nat) {b : BitVec 3} (m : Addr) (s : State) (hb : b ≠ 7) :
    resolveFrom (n + 1) b m s = .next (.done b m s) := by
  rw [resolveFrom, if_neg hb]

/-- Bad parity is noted once and for all. -/
theorem noteParity_idem (s : State) (m : Addr) : (s.noteParity m).noteParity m = s.noteParity m := by
  cases h : badParity (s.cell m)
  · simp only [State.noteParity_good s m h]
  · have hfault : s.noteParity m = s.fault 45 := by rw [State.noteParity, h, State.faultIf_true]
    rw [hfault, State.noteParity, show (s.fault 45).cell m = s.cell m from rfl, h, State.faultIf_true]
    simp only [State.fault, setBit_setBit]

/-- A longer limit loses nothing. -/
theorem resolveFrom_mono {n : Nat} {b : BitVec 3} {m : Addr} {s : State} {b' : BitVec 3} {m' : Addr} {t : State}
    (h : resolveFrom n b m s = .next (.done b' m' t)) {k : Nat} (hk : n ≤ k) :
    resolveFrom k b m s = .next (.done b' m' t) := by
  induction n generalizing b m s k with
  | zero => cases h
  | succ n ih =>
    obtain ⟨k, rfl⟩ : ∃ j, k = j + 1 := ⟨k - 1, by omega⟩
    rw [resolveFrom] at h ⊢
    split
    case isTrue hb =>
      rw [if_pos hb, withRead_eq_next] at h
      obtain ⟨hp, h⟩ := h
      rw [andThen_eq_next] at h
      obtain ⟨r, hr, h⟩ := h
      rw [withRead_present s m _ hp, hr, andThen_next]
      exact ih h (by omega)
    case isFalse hb => rwa [if_neg hb] at h

/-! ## The chains that end -/

/-- The chain of indirect words that begins at m ends within n of them. -/
def State.endsWithin (s : State) : Nat → Addr → Bool
  | 0, _ => false
  | n + 1, m =>
    s.present m && (decide ((s.word m).extractLsb' 15 3 ≠ 7) || s.endsWithin n (lowerAddress (s.word m)))

theorem endsWithin_succ_iff (s : State) (n : Nat) (m : Addr) :
    s.endsWithin (n + 1) m = true ↔
      s.present m = true ∧ ((s.word m).extractLsb' 15 3 ≠ 7 ∨ s.endsWithin n (lowerAddress (s.word m)) = true) := by
  simp [State.endsWithin]

theorem endsWithin_noteParity (s : State) (x : Addr) (n : Nat) (m : Addr) :
    (s.noteParity x).endsWithin n m = s.endsWithin n m := by
  induction n generalizing m with
  | zero => rfl
  | succ n ih =>
    rw [Bool.eq_iff_iff, endsWithin_succ_iff, endsWithin_succ_iff, ih, State.noteParity_present, State.noteParity_word]

/-- A chain ends within n words exactly when indirect addressing does that reads n of them. -/
theorem endsWithin_iff {s : State} (hq : s.Quiet) (n : Nat) (m : Addr) :
    s.endsWithin n m = true ↔ ∃ b' m' t, resolveFrom (n + 1) 7 m s = .next (.done b' m' t) := by
  induction n generalizing m s with
  | zero =>
    refine ⟨(nomatch ·), fun ⟨b', m', t, h⟩ => ?_⟩
    rw [resolveFrom, if_pos rfl, withRead_eq_next, gap_quiet (s.noteParity m) hq] at h
    cases h.2
  | succ n ih =>
    rw [endsWithin_succ_iff]
    by_cases hp : s.present m = true
    · rw [resolveFrom_read _ hq hp]
      by_cases hb : (s.word m).extractLsb' 15 3 = 7
      · rw [hb, ← ih (s := s.noteParity m) hq, endsWithin_noteParity]
        exact ⟨fun h => h.2.resolve_left (absurd rfl), fun h => ⟨hp, .inr h⟩⟩
      · exact ⟨fun _ => ⟨_, _, _, resolveFrom_direct n _ _ hb⟩, fun _ => ⟨hp, .inl hb⟩⟩
    · rw [resolveFrom, if_pos rfl, withRead, if_neg hp]
      exact ⟨fun h => absurd h.1 hp, fun ⟨b', m', t, h⟩ => by cases h⟩

/-- The addresses from which the chain ends within n words. -/
def State.ending (s : State) (n : Nat) : Finset Addr := Finset.univ.filter fun m => s.endsWithin n m = true

theorem mem_ending (s : State) (n : Nat) (m : Addr) : m ∈ s.ending n ↔ s.endsWithin n m = true := by
  simp [State.ending]

theorem ending_monotone (s : State) : Monotone s.ending := by
  refine monotone_nat_of_le_succ fun n => ?_
  induction n with
  | zero => simp [State.ending, State.endsWithin]
  | succ n ih =>
    intro m hm
    rw [mem_ending, endsWithin_succ_iff] at hm ⊢
    exact hm.imp_right (Or.imp_right fun h => (mem_ending s _ _).mp (ih ((mem_ending s _ _).mpr h)))

/-- Once no address is new, none is new again. -/
theorem ending_stable {s : State} {n : Nat} (h : s.ending n = s.ending (n + 1)) :
    s.ending (n + 1) = s.ending (n + 2) := by
  ext m
  have hsame (x : Addr) : s.endsWithin n x = true ↔ s.endsWithin (n + 1) x = true := by
    rw [← mem_ending, ← mem_ending, h]
  rw [mem_ending, mem_ending, endsWithin_succ_iff, endsWithin_succ_iff, hsame]

/-- A chain that ends does so within as many words as storage has: the addresses new at each length are other ones. -/
theorem endsWithin_storage {s : State} {n : Nat} {m : Addr} (h : s.endsWithin n m = true) :
    s.endsWithin 32768 m = true := by
  have hcard : (s.ending (max n 32768)).card = (s.ending 32768).card := by
    refine Nat.stabilises_of_monotone (f := fun n => (s.ending n).card)
      (fun _ _ hle => Finset.card_le_card (ending_monotone s hle)) (fun k => ?_) (fun k hk => ?_) (le_max_right _ _)
    · exact (Finset.card_le_univ _).trans_eq (FinEnum.card_eq_fintypeCard.symm.trans (FinEnum.card_bitVec 15))
    · have heq := Finset.eq_of_subset_of_card_le (ending_monotone s k.le_succ) hk.ge
      exact congrArg Finset.card (ending_stable heq)
  have hsub := ending_monotone s (le_max_right n 32768)
  rw [← mem_ending, Finset.eq_of_subset_of_card_le hsub hcard.le]
  exact ending_monotone s (le_max_left n 32768) ((mem_ending s n m).mpr h)

/-! ## The limit -/

theorem reaches_indirect_iff {s : State} (hq : s.Quiet) (m : Addr) (b' : BitVec 3) (m' : Addr) (t : State) :
    Reaches s 7 m b' m' t ↔ resolveFrom 32769 7 m s = .next (.done b' m' t) := by
  rw [Reaches, resolve, if_pos rfl, hq]
  rfl

/-- The model's limit on a chain loses nothing (assumption 13). -/
theorem reaches_of_resolveFrom {n : Nat} {s : State} {b : BitVec 3} {m : Addr} {b' : BitVec 3} {m' : Addr} {t : State}
    (hq : s.Quiet) (h : resolveFrom n b m s = .next (.done b' m' t)) : Reaches s b m b' m' t := by
  by_cases hb : b = 7
  · subst hb
    have hends : s.endsWithin n m = true := (endsWithin_iff hq n m).mpr ⟨b', m', t, resolveFrom_mono h n.le_succ⟩
    obtain ⟨b₁, m₁, t₁, h₁⟩ := (endsWithin_iff hq 32768 m).mp (endsWithin_storage hends)
    have hsame := (resolveFrom_mono h (le_max_left n 32769)).symm.trans (resolveFrom_mono h₁ (le_max_right n 32769))
    exact (reaches_indirect_iff hq m b' m' t).mpr (h₁.trans (by cases hsame; rfl))
  · cases n with
    | zero => cases h
    | succ n =>
      rw [resolveFrom_direct n m s hb] at h
      cases h
      exact resolve_direct s b m hb

/-- A word that names itself never lets the chain end. -/
theorem resolveFrom_self {s : State} {m : Addr} (hq : s.Quiet) (hp : s.present m = true)
    (hb : (s.word m).extractLsb' 15 3 = 7) (hm : lowerAddress (s.word m) = m) (n : Nat) :
    resolveFrom (n + 1) 7 m s = .next (.endless (s.noteParity m)) := by
  rw [resolveFrom_read n hq hp, hb, hm]
  induction n with
  | zero => rfl
  | succ n ih =>
    rw [resolveFrom_read (s := s.noteParity m) n hq hp, State.noteParity_word, hb, hm, noteParity_idem]
    exact ih

/-- Settles O21: by what one reading does (`resolveFrom_read`), and by the limit, which loses nothing
(`reaches_of_resolveFrom`). -/
theorem indirectAddressing : Obligations.IndirectAddressing := by
  refine ⟨fun s m hq hp => ⟨fun hb => ?ends, fun hb hm => ?self, fun m2 b' m' t hb hm => ?goesOn⟩,
    fun n s b m b' m' t => reaches_of_resolveFrom⟩
  case ends =>
    refine (reaches_indirect_iff hq _ _ _ _).mpr ?_
    rw [resolveFrom_read _ hq hp]
    exact resolveFrom_direct _ _ _ hb
  case self =>
    have hend : resolve 7 m s = .next (.endless (s.noteParity m)) := by
      rw [resolve, if_pos rfl, hq]
      exact resolveFrom_self hq hp hb hm 32768
    rw [exec, execLda, withOperand, withEffective, withResolved, hend, andThen_next]
  case goesOn =>
    have hread (n : Nat) : resolveFrom (n + 1) 7 m s = resolveFrom n 7 m2 (s.noteParity m) := by
      rw [resolveFrom_read n hq hp, hb, lowerAddress, hm]
      rfl
    have hq' : (s.noteParity m).Quiet := hq
    constructor
    · intro h
      exact reaches_of_resolveFrom hq' ((hread _).symm.trans ((reaches_indirect_iff hq _ _ _ _).mp h))
    · intro h
      exact reaches_of_resolveFrom hq ((hread _).trans ((reaches_indirect_iff hq' _ _ _ _).mp h))

end Sys2Proof.Machine
end

section
/-! The transmission instructions (rule R130 to rule R148) and STL (rule R198): once the indirect addressing has ended,
a load goes on with the word it reads, and a store makes one checked write and goes on to the next instruction. -/

namespace Sys2Proof.Machine

/-! ## Stores and the operands they reach -/

/-- A store in bounds changes the one word, and the next instruction follows (rule R67, rule R68). -/
theorem storeNext_storeCell {s : State} {a : Addr} (ha : s.allowed a = true) (hp : s.present a = true)
    (f : Cell → Cell) : storeNext (storeCell s a f) = .next (s.setCell a (f (s.cell a))).advance := by
  rw [storeNext, storeCell_done s a f ha hp, andThen_next]

/-- A store out of bounds writes nothing, and the next instruction follows (rule R460, decision D16). -/
theorem storeNext_storeCell_out {s : State} {a : Addr} (ha : s.allowed a = false) (f : Cell → Cell) :
    storeNext (storeCell s a f) = .next s.violation.advance := by
  rw [storeNext, storeCell_out s a f ha, andThen_next]

section Stores

variable {s : State} {b : BitVec 3} {m : Addr} {b' : BitVec 3} {m' : Addr} {s' : State}

/-- A store at M, of what the state reached holds (rule R102). -/
theorem withEffective_storeCell (h : Reaches s b m b' m' s') (f : State → Cell → Cell)
    (ha : s'.allowed (modified s' b' m') = true) (hp : s'.present (modified s' b' m') = true) :
    withEffective s b m (fun e s => storeNext (storeCell s e (f s))) =
      .next (s'.setCell (modified s' b' m') (f s' (s'.cell (modified s' b' m')))).advance := by
  rw [withEffective_reaches s b m b' m' s' h, storeNext_storeCell ha hp]

theorem withEffective_storeCell_out (h : Reaches s b m b' m' s') (f : State → Cell → Cell)
    (ha : s'.allowed (modified s' b' m') = false) :
    withEffective s b m (fun e s => storeNext (storeCell s e (f s))) = .next s'.violation.advance := by
  rw [withEffective_reaches s b m b' m' s' h, storeNext_storeCell_out ha]

/-- A store at m, of what the final designator names (rule R102). -/
theorem withResolved_storeCell (h : Reaches s b m b' m' s') (f : BitVec 3 → State → Cell → Cell)
    (ha : s'.allowed m' = true) (hp : s'.present m' = true) :
    withResolved s b m (fun b m s => storeNext (storeCell s m (f b s))) =
      .next (s'.setCell m' (f b' s' (s'.cell m'))).advance := by
  rw [withResolved_reaches s b m b' m' s' h, storeNext_storeCell ha hp]

theorem withResolved_storeCell_out (h : Reaches s b m b' m' s') (f : BitVec 3 → State → Cell → Cell)
    (ha : s'.allowed m' = false) :
    withResolved s b m (fun b m s => storeNext (storeCell s m (f b s))) = .next s'.violation.advance := by
  rw [withResolved_reaches s b m b' m' s' h, storeNext_storeCell_out ha]

end Stores

/-- The designators of ATI that the spec gives a meaning (rule R148). -/
theorem namesIndex_iff (b : BitVec 3) : namesIndex b = true ↔ b ≠ 0 ∧ b ≠ 7 := by
  simp only [namesIndex, Bool.and_eq_true, decide_eq_true_eq]

/-! ## Loads -/

/-- Settles O23: each goes on with the word at M (`withOperand_reaches`), and the noted parity leaves the augment
designators as they were. -/
theorem loadWords : Obligations.LoadWords := by
  intro b m s b' m' s' h hp x t
  have load (rest : Word → State → Res State) : withOperand s b m rest = rest x t :=
    withOperand_reaches s b m b' m' s' h hp rest
  have haug : t.operand x = s'.operand x := State.noteParity_operand s' _ x
  refine ⟨?lda, ?lac, ?ldq, ?lqc⟩
  case lda => rw [exec, execLda, load, haug]
  case lac => rw [exec, execLac, load]
  case ldq => rw [exec, execLdq, load, haug]
  case lqc => rw [exec, execLqc, load]

/-- Settles O25: each goes on with the word at m, its designator that of the last indirect word. -/
theorem loadIndex : Obligations.LoadIndex := by
  intro b m s b' m' s' h hp
  have load (rest : BitVec 3 → Word → State → Res State) :
      withResolved s b m (fun b m s => withRead s m (rest b)) = rest b' (s'.word m') (s'.noteParity m') := by
    rw [withResolved_reaches s b m b' m' s' h, withRead_present s' m' _ hp]
  refine ⟨?liu, ?lil⟩
  case liu => rw [exec, execLiu, load, State.setIndex, State.noteParity_b, upperAddress]
  case lil => rw [exec, execLil, load, State.setIndex, State.noteParity_b, lowerAddress]

/-! ## Registers sent to one another, and operands entered -/

/-- Settles O24: IAQ and ATI reach no operand; an operand entered is the address reached, modified but for ENI. -/
theorem transmitAndEnter : Obligations.TransmitAndEnter := by
  refine ⟨fun s => ?iaq, fun b s h0 h7 => ?ati, fun b y s b' y' s' h => ⟨?enq, ?ena, ?eni⟩⟩
  case iaq => rw [exec, execIaq]
  case ati =>
    rw [exec, execAti, if_pos ((namesIndex_iff b).mpr ⟨h0, h7⟩), State.setIndex, lowerAddress]
  case enq => rw [exec, execEnq, withEffective_reaches s b y b' y' s' h, extendSign]
  case ena => rw [exec, execEna, withEffective_reaches s b y b' y' s' h, extendSign]
  case eni => rw [exec, execEni, withResolved_reaches s b y b' y' s' h, State.setIndex]

/-! ## Stores -/

/-- Settles O26: each is a checked write at M, of a word of the state reached (`withEffective_storeCell`). -/
theorem storeWords : Obligations.StoreWords := by
  intro b m s b' m' s' h e
  refine ⟨fun ha hp => ⟨?sta, ?stq, ?stl⟩, fun ha => ?out⟩
  case sta => exact withEffective_storeCell h (fun s _ => cellOf (s.operand s.a)) ha hp
  case stq => exact withEffective_storeCell h (fun s _ => cellOf (s.operand s.q)) ha hp
  case stl => exact withEffective_storeCell h (fun s _ => cellOf (s.q &&& s.a)) ha hp
  case out =>
    have out (f : State → Cell → Cell) := withEffective_storeCell_out h f ha
    simp only [List.forall_mem_cons]
    exact ⟨out _, out _, out _, List.forall_mem_nil _⟩

/-- Settles O27: SIU and SIL are checked writes at m, SAU and SAL at M, of one address portion. -/
theorem storeFields : Obligations.StoreFields := by
  intro b m s b' m' s' h e out v
  refine ⟨fun ha hp => ⟨?siu, ?sil⟩, fun ha hp => ⟨?sau, ?sal⟩,
    fun ha => ?outResolved, fun ha => ?outEffective⟩
  case siu => exact withResolved_storeCell h (fun b s => replaceUpper (s.index b)) ha hp
  case sil => exact withResolved_storeCell h (fun b s => replaceLower (s.index b)) ha hp
  case sau => exact withEffective_storeCell h (fun s => replaceUpper (lowerAddress s.a)) ha hp
  case sal => exact withEffective_storeCell h (fun s => replaceLower (lowerAddress s.a)) ha hp
  case outResolved => exact ⟨withResolved_storeCell_out h _ ha, withResolved_storeCell_out h _ ha⟩
  case outEffective => exact ⟨withEffective_storeCell_out h _ ha, withEffective_storeCell_out h _ ha⟩

end Sys2Proof.Machine
end

section
/-! Fixed point and index arithmetic (rule R160 to rule R167, rule R196, rule R197, rule R246) and the floating point
option (rule R170 to rule R176): the one's complement patterns of integers, and the instructions that go on with an
operand once the indirect addressing has ended. -/

namespace Sys2Proof.Machine

/-! ## One's complement patterns of integers -/

/-- No pattern of n bits is an integer of magnitude 2^(n-1) or more (rule R9). -/
theorem natAbs_ocVal_lt {n : Nat} (hn : 0 < n) (x : BitVec n) : (ocVal x).natAbs < 2 ^ (n - 1) := by
  have hx := x.isLt
  have hcast : (2 ^ n : Int) = ((2 ^ n : Nat) : Int) := by push_cast; rfl
  have hhalf : 2 ^ n = 2 * 2 ^ (n - 1) := (mul_pow_sub_one hn.ne' 2).symm
  rw [ocVal_eq_toNat, hcast]
  split_ifs <;> omega

/-- Both zeros are zero (rule R9). -/
theorem ocVal_eitherZero {n : Nat} (hn : 0 < n) (negative : Bool) :
    ocVal (if negative then BitVec.allOnes n else 0) = 0 := by
  cases negative <;> simp [ocVal, BitVec.msb_allOnes hn]

/-- The pattern of an integer that fits is read back as that integer (rule R9). -/
theorem ocVal_ocOf {n : Nat} (hn : 0 < n) (v : Int) (hv : v.natAbs < 2 ^ (n - 1)) : ocVal (ocOf n v) = v := by
  have hcast : (2 ^ n : Int) = ((2 ^ n : Nat) : Int) := by push_cast; rfl
  have hhalf : 2 ^ n = 2 * 2 ^ (n - 1) := (mul_pow_sub_one hn.ne' 2).symm
  have hmod : v.natAbs % 2 ^ n = v.natAbs := Nat.mod_eq_of_lt (by omega)
  rw [ocVal_eq_toNat, ocOf, hcast]
  by_cases hneg : v < 0
  · simp only [if_pos hneg, BitVec.toNat_not, BitVec.toNat_ofNat, hmod]
    split_ifs <;> omega
  · simp only [if_neg hneg, BitVec.toNat_ofNat, hmod]
    split_ifs <;> omega

/-- Whatever the free bit, the 96 bits of MUI are the product exactly: it always fits (rule R163). -/
theorem ocVal_product96 (negative : Bool) (a x : Word) : ocVal (product96 negative a x) = ocVal a * ocVal x := by
  unfold product96
  by_cases hzero : ocVal a * ocVal x = 0
  · rw [if_pos hzero, hzero, ocVal_eitherZero (by decide)]
  · rw [if_neg hzero]
    refine ocVal_ocOf (by decide) _ ?_
    calc (ocVal a * ocVal x).natAbs = (ocVal a).natAbs * (ocVal x).natAbs := Int.natAbs_mul _ _
      _ < 2 ^ 47 * 2 ^ 47 := Nat.mul_lt_mul'' (natAbs_ocVal_lt (by decide) a) (natAbs_ocVal_lt (by decide) x)
      _ ≤ 2 ^ (96 - 1) := by decide

/-- A quotient or remainder that fits is delivered, whichever zero stands for zero (rule R164). -/
theorem ocVal_signedWord (negative : Bool) (v : Int) (hv : v.natAbs < 2 ^ 47) : ocVal (signedWord negative v) = v := by
  unfold signedWord
  by_cases hzero : v = 0
  · rw [if_pos hzero, hzero, ocVal_eitherZero (by decide)]
  · rw [if_neg hzero, ocVal_ocOf (by decide) v hv]

theorem signedWord_zero (negative : Bool) : signedWord negative 0 = if negative then BitVec.allOnes 48 else 0 :=
  if_pos rfl

/-- The remainder of a division by a word fits in a word (rule R164). -/
theorem natAbs_remainder_lt (q a d : Word) (hd : ocVal d ≠ 0) : (remainder q a d).natAbs < 2 ^ 47 := by
  have hfits : (ocVal d).natAbs < 2 ^ 47 := natAbs_ocVal_lt (by decide) d
  have hdivisor : 0 < (ocVal d).natAbs := Int.natAbs_pos.mpr hd
  rw [remainder, Int.natAbs_tmod]
  exact (Nat.mod_lt _ hdivisor).trans hfits

theorem divideFaults_iff (q a d : Word) :
    divideFaults q a d = true ↔ ocVal d = 0 ∨ 2 ^ 47 ≤ (quotient q a d).natAbs := by
  rw [divideFaults, Bool.or_eq_true, decide_eq_true_eq, decide_eq_true_eq]

/-- The count of IJP that is not zero is reduced by exactly one: no borrow goes around (rule R246, decision D10). -/
theorem countDown_eq (v : Addr) (hv : v ≠ 0) : countDown v = BitVec.ofNat 15 (v.toNat - 1) := by
  have hlt := v.isLt
  have hpos : v.toNat ≠ 0 := fun h => hv (BitVec.eq_of_toNat_eq h)
  apply BitVec.eq_of_toNat_eq
  rw [countDown, toNat_ocAdd, BitVec.toNat_ofNat, Nat.mod_eq_of_lt (by omega)]
  simp only [BitVec.reduceToNat]
  split_ifs <;> omega

/-! ## What the shared operations deliver -/

/-- The sum and the overflow fault, bit 03, of an addition to A (rule R161). -/
theorem addToA_eq (s : State) (x : Word) (faults : Bool) :
    addToA s x faults =
      { s with
        a := ocAdd s.a x
        irLatch := if faults = true ∧ ovfAdd s.a x = true then setBit s.irLatch 3 else s.irLatch } := by
  simp only [addToA, State.faultIf, Bool.and_eq_true]

theorem divideQA_fault (s : State) (d : Word) (h : divideFaults s.q s.a d = true) :
    divideQA s d = { s.drawn 2 with a := s.free 0, q := s.free 1, irLatch := setBit s.irLatch 2 } := by
  rw [divideQA, if_pos h]
  rfl

theorem divideQA_done (s : State) (d : Word) (h : ¬ divideFaults s.q s.a d = true) :
    divideQA s d =
      { s.drawn 1 with
        a := signedWord ((s.free 0).getLsbD 0) (quotient s.q s.a d)
        q := signedWord s.q.msb (remainder s.q s.a d) } := by
  rw [divideQA, if_neg h]

/-- The noted parity leaves the augment designators of the instruction as they were (rule R40). -/
@[simp] theorem State.noteParity_augment (s : State) (x : Addr) : (s.noteParity x).augment = s.augment := rfl

/-- Only a divide can divide by zero (rule R175, rule R176). -/
theorem floatResult_of_ne_fdv {k : FpKind} (hk : k ≠ .fdv) (x : Word) (s : State) :
    floatResult k x s =
      { (s.faultIf (Config.fpOp k s.augment s.a x).expOver 4).faultIf (Config.fpOp k s.augment s.a x).expUnder 5 with
        a := (Config.fpOp k s.augment s.a x).a
        q := (Config.fpOp k s.augment s.a x).q } := by
  simp only [floatResult, decide_eq_false hk, Bool.false_and, State.faultIf_false]

theorem float_option {k : FpKind} {b : BitVec 3} {m : Addr} {s : State} (hf : s.params.fpo = true) (ff : BitVec 2) :
    float k ff b m s = withOperand s b m fun x s => .next (floatResult k x s).advance := by
  rw [float, if_pos hf]

/-! ## The instructions -/

/-- Settles O28: each is an addition to A (`addToA_eq`) of what the operand reached gives. -/
theorem addAndSubtract : Obligations.AddAndSubtract := by
  intro b m s b' m' s' h e sum
  refine ⟨?ina, fun hp => ?operand⟩
  case ina => rw [exec, execIna, withEffective_reaches s b m b' m' s' h, addToA_eq, extendSign]
  case operand =>
    intro x t
    have go (rest : Word → State → Res State) : withOperand s b m rest = rest x t :=
      withOperand_reaches s b m b' m' s' h hp rest
    have haug : t.operand x = s'.operand x := State.noteParity_operand s' _ x
    have adds (y : Word) (faults : Bool) : addToA t y faults = sum t y faults := addToA_eq t y faults
    refine ⟨?add, ?sub, ?adl, ?sbl⟩
    case add => rw [exec, execAdd, go, haug, adds]
    case sub => rw [exec, execSub, go, haug, adds]
    case adl => rw [exec, execAdl, go, adds, State.noteParity_q, State.noteParity_params]
    case sbl => rw [exec, execSbl, go, adds, State.noteParity_q, State.noteParity_params]

/-- Settles O29: the 96 bits of the model are the product whatever the free bit (`ocVal_product96`). -/
theorem multiplyInteger : Obligations.MultiplyInteger := by
  intro b m s b' m' s' h hp x
  refine ⟨product96 ((s'.free 0).getLsbD 0) s'.a x, ocVal_product96 _ _ _, ?_⟩
  rw [exec, execMui, withOperand_reaches s b m b' m' s' h hp, State.noteParity_operand, State.noteParity_a]
  rfl

/-- Settles O30: quotient and remainder are delivered where they fit (`ocVal_signedWord`, `natAbs_remainder_lt`), and
free values after a divide fault. -/
theorem divideInteger : Obligations.DivideInteger := by
  intro b m s b' m' s' h hp t d n
  let x := s'.operand (s'.word (modified s' b' m'))
  have go : exec (.dvi b m) s = .next (divideQA t x).advance := by
    rw [exec, execDvi, withOperand_reaches s b m b' m' s' h hp, State.noteParity_operand]
  refine ⟨fun hd hfits => ?done, fun hfault => ?fault⟩
  case done =>
    have hno : ¬ divideFaults t.q t.a x = true := by
      rw [divideFaults_iff]
      exact not_or.mpr ⟨hd, not_le.mpr hfits⟩
    refine ⟨_, _, ocVal_signedWord ((t.free 0).getLsbD 0) (quotient t.q t.a x) hfits,
      ocVal_signedWord t.q.msb (remainder t.q t.a x) (natAbs_remainder_lt t.q t.a x hd), fun hzero => ?sign, ?next⟩
    case sign =>
      have hremainder : remainder t.q t.a x = 0 := hzero
      rw [hremainder, signedWord_zero, BitVec.msb_eq_getLsbD_last]
      rfl
    case next => rw [go, divideQA_done t x hno]
  case fault =>
    exact ⟨t.free 0, t.free 1, by rw [go, divideQA_fault t x ((divideFaults_iff _ _ _).mpr hfault)]⟩

/-- Settles O31: the register the final designator names is written, or, IJP of a zero count, none; the reduced count
is `countDown_eq`, and the jump is made or refused with it in the register. -/
theorem indexArithmetic : Obligations.IndexArithmetic := by
  intro b y s b' y' s' h v
  have go (rest : BitVec 3 → Addr → State → Res State) : withResolved s b y rest = rest b' y' s' :=
    withResolved_reaches s b y b' y' s' h rest
  refine ⟨?ini, fun heq => ?skip, fun hne => ?count, fun hret => ?ijp⟩
  case ini => rw [exec, execIni, go, State.setIndex]
  case skip => rw [exec, execIsk, go, if_pos heq, State.setIndex, State.skip, State.nextStep]
  case count => rw [exec, execIsk, go, if_neg hne, State.setIndex]
  case ijp =>
    intro t
    have reduced (hv : v ≠ 0) : exec (.ijp b y) s = jump t y' := by
      rw [exec, execIjp, go, if_neg hv, countDown_eq _ hv, State.setIndex]
    refine ⟨fun hv ha => ?jumps, fun hv ha => ?refused, fun hv => ?zero⟩
    case jumps => rw [reduced hv, jump, jumpElse_in t y' _ hret ha]
    case refused =>
      rw [reduced hv, jump, jumpElse_out t y' _ hret ha]
      rfl
    case zero => rw [exec, execIjp, go, if_pos hv]

/-- Settles O32: the operand is read as by any instruction, and the results are those of `fp_op` (`floatResult`); only
of FDV can bit 02 be set (`floatResult_of_ne_fdv`). -/
theorem floatingOption : Obligations.FloatingOption := by
  intro b m s b' m' s' hf h hp t r ends
  have go (k : FpKind) (ff : BitVec 2) :
      float k ff b m s = .next (floatResult k (s'.word (modified s' b' m')) t).advance := by
    rw [float_option hf, withOperand_reaches s b m b' m' s' h hp]
  refine ⟨?fad, ?fsb, ?fmu, ?fdv⟩
  case fad => rw [exec, execFad, go, floatResult_of_ne_fdv (by decide), State.noteParity_augment, State.noteParity_a]
  case fsb => rw [exec, execFsb, go, floatResult_of_ne_fdv (by decide), State.noteParity_augment, State.noteParity_a]
  case fmu => rw [exec, execFmu, go, floatResult_of_ne_fdv (by decide), State.noteParity_augment, State.noteParity_a]
  case fdv =>
    rw [exec, execFdv, go, floatResult, State.noteParity_augment, State.noteParity_a]
    rfl

end Sys2Proof.Machine
end

section
/-! The logical instructions (rule R191 to rule R195), shifting and scaling (rule R199 to rule R209): what each does to
the bits of a register, and the instructions that go on with it once the indirect addressing has ended. -/

namespace Sys2Proof.Machine

section Bits

variable {n : Nat}

/-! ## The bits of a logical result -/

/-- A bit of the operand sets the bit (rule R191). -/
theorem getLsbD_or_eq_ite (a x : BitVec n) (i : Nat) :
    (a ||| x).getLsbD i = if x.getLsbD i then true else a.getLsbD i := by
  rw [BitVec.getLsbD_or]
  cases x.getLsbD i <;> simp

/-- A bit of the operand complements the bit (rule R192). -/
theorem getLsbD_xor_eq_ite (a x : BitVec n) (i : Nat) :
    (a ^^^ x).getLsbD i = if x.getLsbD i then !a.getLsbD i else a.getLsbD i := by
  rw [BitVec.getLsbD_xor]
  cases x.getLsbD i <;> simp

/-- A bit of the operand clears the bit (rule R193). -/
theorem getLsbD_and_not_eq_ite (a x : BitVec n) {i : Nat} (hi : i < n) :
    (a &&& ~~~x).getLsbD i = if x.getLsbD i then false else a.getLsbD i := by
  rw [BitVec.getLsbD_and, BitVec.getLsbD_not, decide_eq_true hi]
  cases x.getLsbD i <;> simp

/-- A bit of the operand is loaded where the mask has a one (rule R195). -/
theorem getLsbD_and_eq_ite (q x : BitVec n) (i : Nat) :
    (q &&& x).getLsbD i = if q.getLsbD i then x.getLsbD i else false := by
  rw [BitVec.getLsbD_and]
  cases q.getLsbD i <;> simp

/-- A bit of the operand replaces the bit where the mask has a one (rule R194). -/
theorem getLsbD_substitute (a q x : BitVec n) {i : Nat} (hi : i < n) :
    ((x &&& q) ||| (a &&& ~~~q)).getLsbD i = if q.getLsbD i then x.getLsbD i else a.getLsbD i := by
  rw [BitVec.getLsbD_or, getLsbD_and_not_eq_ite a q hi, BitVec.getLsbD_and]
  cases q.getLsbD i <;> simp

/-! ## The bits of a shifted register -/

/-- A right shift takes each bit from so many places to its left, and from the sign where there is none (rule R199). -/
theorem getLsbD_sshiftRight_of_lt (x : BitVec n) (places : Nat) {i : Nat} (hi : i < n) :
    (x.sshiftRight places).getLsbD i = x.getLsbD (if i + places < n then i + places else n - 1) := by
  rw [BitVec.getLsbD_sshiftRight, decide_eq_false hi.not_ge, Bool.not_false, Bool.true_and, Nat.add_comm places,
    BitVec.msb_eq_getLsbD_last, apply_ite x.getLsbD]

/-- A left circular shift brings each bit so many places to the left, around the end (rule R199). -/
theorem getLsbD_rotateLeft_add_mod (x : BitVec n) (places : Nat) {i : Nat} (hi : i < n) :
    (x.rotateLeft places).getLsbD ((i + places) % n) = x.getLsbD i := by
  have hshift : places % n < n := Nat.mod_lt _ (by omega)
  rw [BitVec.getLsbD_rotateLeft, Nat.add_mod, Nat.mod_eq_of_lt hi]
  by_cases hwrap : i + places % n < n
  case pos =>
    have hstays : ¬ i + places % n < places % n := by omega
    rw [Nat.mod_eq_of_lt hwrap, decide_eq_false hstays, cond_false, decide_eq_true hwrap, Bool.true_and,
      Nat.add_sub_cancel]
  case neg =>
    have hmod : (i + places % n) % n = i + places % n - n := by
      rw [Nat.mod_eq_sub_mod (by omega), Nat.mod_eq_of_lt (by omega)]
    have hwrapped : i + places % n - n < places % n := by omega
    rw [hmod, decide_eq_true hwrapped, cond_true, show n - places % n + (i + places % n - n) = i by omega]

/-- Left circular shifts add up. -/
theorem rotateLeft_rotateLeft (x : BitVec n) (j k : Nat) : (x.rotateLeft j).rotateLeft k = x.rotateLeft (j + k) := by
  refine BitVec.eq_of_getMsbD_eq fun i hi => ?_
  have hmod : (k + i) % n < n := Nat.mod_lt _ (by omega)
  simp only [BitVec.getMsbD_rotateLeft, decide_eq_true hi, decide_eq_true hmod, Bool.true_and, Nat.add_mod_mod,
    Nat.add_assoc]

theorem rotateLeft_zero (x : BitVec n) : x.rotateLeft 0 = x := by
  refine BitVec.eq_of_getMsbD_eq fun i hi => ?_
  rw [BitVec.getMsbD_rotateLeft, decide_eq_true hi, Bool.true_and, Nat.zero_add, Nat.mod_eq_of_lt hi]

/-! ## Scaling -/

/-- The two patterns scaling leaves alone are those of zero (rule R9, rule R207). -/
theorem ocZero_iff (hn : 0 < n) (x : BitVec n) : ocZero x = true ↔ ocVal x = 0 := by
  have hx := x.isLt
  have hhalf : 2 ^ n = 2 * 2 ^ (n - 1) := (mul_pow_sub_one hn.ne' 2).symm
  have hcast : (2 ^ n : Int) = ((2 ^ n : Nat) : Int) := by push_cast; rfl
  rw [ocZero, Bool.or_eq_true, decide_eq_true_eq, decide_eq_true_eq, eq_allOnes_iff_toNat, ← BitVec.toNat_inj,
    ocVal_eq_toNat, hcast, show (0 : BitVec n).toNat = 0 from BitVec.toNat_zero]
  split_ifs <;> omega

/-- A register is scaled when the two bits at its left end differ (rule R207). -/
theorem scaled_iff (hn : 2 ≤ n) (x : BitVec n) : scaled x = true ↔ x.getLsbD (n - 1) ≠ x.getLsbD (n - 2) := by
  have h0 : 0 < n := by omega
  have h1 : 1 < n := by omega
  rw [scaled, bne_iff_ne, BitVec.getMsbD_eq_getLsbD, BitVec.getMsbD_eq_getLsbD, decide_eq_true h0, decide_eq_true h1,
    Bool.true_and, Bool.true_and, Nat.sub_zero, Nat.sub_sub]

theorem scaled_eq_false_iff (hn : 2 ≤ n) (x : BitVec n) :
    scaled x = false ↔ x.getLsbD (n - 1) = x.getLsbD (n - 2) := by
  rw [← Bool.not_eq_true, scaled_iff hn, not_not]

/-- The loop stops at the first scaled position, or when the count is used up (rule R208). -/
theorem scaleLoop_eq_rotateLeft (c : Nat) (x : BitVec n) :
    ∃ j ≤ c, scaleLoop c x = (x.rotateLeft j, c - j) ∧ (∀ i < j, scaled (x.rotateLeft i) = false) ∧
      (j < c → scaled (x.rotateLeft j) = true) := by
  induction c generalizing x with
  | zero => exact ⟨0, le_rfl, by rw [scaleLoop, rotateLeft_zero], by simp, by simp⟩
  | succ c ih =>
    by_cases hx : scaled x = true
    case pos =>
      exact ⟨0, Nat.zero_le _, by rw [scaleLoop, if_pos hx, rotateLeft_zero, Nat.sub_zero], by simp,
        fun _ => by rw [rotateLeft_zero, hx]⟩
    case neg =>
      obtain ⟨j, hj, hloop, hbefore, hend⟩ := ih (x.rotateLeft 1)
      simp only [rotateLeft_rotateLeft, Nat.add_comm 1] at hloop hbefore hend
      refine ⟨j + 1, by omega, ?value, fun i hi => ?before, fun hlt => hend (by omega)⟩
      case value => rw [scaleLoop, if_neg hx, hloop, Nat.add_sub_add_right]
      case before =>
        cases i with
        | zero => rw [rotateLeft_zero, Bool.eq_false_of_not_eq_true hx]
        | succ i => exact hbefore i (by omega)

/-- Scaling is a left circular shift by the fewest places that scale the register, or by the count if it is less, and
by none of either zero (rule R207, rule R208). -/
theorem scaleValue_eq_rotateLeft (hn : 2 ≤ n) (c : Nat) (x : BitVec n) :
    ∃ j ≤ c, scaleValue c x = (x.rotateLeft j, c - j) ∧
      (∀ i < j, (x.rotateLeft i).getLsbD (n - 1) = (x.rotateLeft i).getLsbD (n - 2)) ∧
      (ocVal x = 0 → j = 0) ∧
      (ocVal x ≠ 0 → j < c → (x.rotateLeft j).getLsbD (n - 1) ≠ (x.rotateLeft j).getLsbD (n - 2)) := by
  simp only [← scaled_iff hn, ← scaled_eq_false_iff hn, ← ocZero_iff (show 0 < n by omega), ne_eq, scaleValue]
  by_cases hzero : ocZero x = true
  case pos =>
    exact ⟨0, Nat.zero_le c, by rw [if_pos hzero, rotateLeft_zero, Nat.sub_zero], by simp, fun _ => rfl, absurd hzero⟩
  case neg =>
    obtain ⟨j, hj, hloop, hbefore, hend⟩ := scaleLoop_eq_rotateLeft c x
    exact ⟨j, hj, by rw [if_neg hzero, hloop], hbefore, fun h => absurd h hzero, fun _ => hend⟩

end Bits

/-! ## Counts -/

/-- The lower seven bits of k, as a count of places (rule R205, rule R208). -/
theorem toNat_lowerSeven (k : Addr) : (k.extractLsb' 0 7).toNat = k.toNat % 128 := by
  rw [BitVec.extractLsb'_toNat, Nat.shiftRight_zero]

theorem faultIf_decide (p : Prop) [Decidable p] (s : State) (i : Nat) :
    s.faultIf (decide p) i = if p then { s with irLatch := setBit s.irLatch i } else s := by
  by_cases h : p
  · rw [if_pos h, decide_eq_true h, State.faultIf_true, State.fault]
  · rw [if_neg h, decide_eq_false h, State.faultIf_false]

/-- A shift instruction goes on with the lower seven bits of K, the fault noted (rule R205). -/
theorem withShift_reaches {s : State} {b : BitVec 3} {k : Addr} {b' : BitVec 3} {k' : Addr} {s' : State}
    (h : Reaches s b k b' k' s') (rest : Nat → State → State) :
    withShift s b k rest =
      .next (rest ((modified s' b' k').toNat % 128)
        (s'.faultIf (decide (0o177 < (modified s' b' k').toNat)) 1)).advance := by
  rw [withShift, withEffective_reaches s b k b' k' s' h, toNat_lowerSeven]

/-! ## The instructions -/

/-- Settles O34: each goes on with the word at M, and its result has the bits stated above (`getLsbD_or_eq_ite` and
those after it). -/
theorem logicalResults : Obligations.LogicalResults := by
  intro b m s b' m' s' h hp x t
  have go (rest : Word → State → Res State) : withOperand s b m rest = rest x t :=
    withOperand_reaches s b m b' m' s' h hp rest
  simp only [List.forall_mem_cons]
  refine ⟨⟨_, ?sst, fun n _ => getLsbD_or_eq_ite s'.a x n⟩, ⟨_, ?scm, fun n _ => getLsbD_xor_eq_ite s'.a x n⟩,
    ⟨_, ?scl, fun n hn => getLsbD_and_not_eq_ite s'.a x hn⟩, ⟨_, ?ssu, fun n hn => getLsbD_substitute s'.a s'.q x hn⟩,
    ⟨_, ?ldl, fun n _ => getLsbD_and_eq_ite s'.q x n⟩, List.forall_mem_nil _⟩
  case sst => rw [exec, execSst, go, State.noteParity_a]
  case scm => rw [exec, execScm, go, State.noteParity_a]
  case scl => rw [exec, execScl, go, State.noteParity_a]
  case ssu => rw [exec, execSsu, go, State.noteParity_a, State.noteParity_q]
  case ldl => rw [exec, execLdl, go, State.noteParity_q]

/-- Settles O35: the fault is in the state the shift starts from (`withShift_reaches`), which has the A and Q reached;
the bits are those of `getLsbD_sshiftRight_of_lt` and `getLsbD_rotateLeft_add_mod`. -/
theorem shifts : Obligations.Shifts := by
  intro b k s b' k' s' h n t aq
  have ht : s'.faultIf (decide (0o177 < (modified s' b' k').toNat)) 1 = t := faultIf_decide _ s' 1
  have ha : t.a = s'.a := by rw [← ht, State.faultIf_a]
  have hq : t.q = s'.q := by rw [← ht, State.faultIf_q]
  have go (rest : Nat → State → State) : withShift s b k rest = .next (rest n t).advance := by
    rw [withShift_reaches h, ht]
  refine ⟨⟨_, ?ars, fun i => getLsbD_sshiftRight_of_lt s'.a n⟩, ⟨_, ?qrs, fun i => getLsbD_sshiftRight_of_lt s'.q n⟩,
    ⟨_, ?lrs, fun i => getLsbD_sshiftRight_of_lt aq n⟩, ⟨_, ?als, fun i => getLsbD_rotateLeft_add_mod s'.a n⟩,
    ⟨_, ?qls, fun i => getLsbD_rotateLeft_add_mod s'.q n⟩, ⟨_, ?lls, fun i => getLsbD_rotateLeft_add_mod aq n⟩⟩
  case ars => rw [exec, execArs, go, ha]
  case qrs => rw [exec, execQrs, go, hq]
  case lrs => rw [exec, execLrs, go, ha, hq, State.setAQ]
  case als => rw [exec, execAls, go, ha]
  case qls => rw [exec, execQls, go, hq]
  case lls => rw [exec, execLls, go, ha, hq, State.setAQ]

/-- Settles O36: the value and the count left are those of `scaleValue_eq_rotateLeft`, of A and of AQ. -/
theorem scaling : Obligations.Scaling := by
  intro b k s b' k' s' h c left aq
  have go (rest : BitVec 3 → Addr → State → Res State) : withResolved s b k rest = rest b' k' s' :=
    withResolved_reaches s b k b' k' s' h rest
  refine ⟨?sca, ?scq⟩
  case sca =>
    obtain ⟨j, hj, hvalue, hbits⟩ := scaleValue_eq_rotateLeft (by decide) c s'.a
    refine ⟨j, hj, ?_, hbits⟩
    rw [exec, execSca, go, toNat_lowerSeven, hvalue]
    rfl
  case scq =>
    obtain ⟨j, hj, hvalue, hbits⟩ := scaleValue_eq_rotateLeft (by decide) c aq
    refine ⟨j, hj, ?_, hbits⟩
    rw [exec, execScq, go, toNat_lowerSeven, hvalue]
    rfl

end Sys2Proof.Machine
end

section
/-! The replace instructions (rule R220 to rule R224), the storage tests (rule R225, rule R226) and the searches
(rule R230 to rule R234): a word read and written back with no other agent between, and a list of words examined from
its last one down. -/

namespace Sys2Proof.Machine

/-! ## A word read and written back -/

/-- What is summed goes to A, an overflow to bit 03 (rule R220). -/
def State.summed (s : State) (x y : Word) : State := { s.faultIf (ovfAdd x y) 3 with a := ocAdd x y }

section ReadAndWrite

variable {s : State} {b : BitVec 3} {m : Addr} {b' : BitVec 3} {m' : Addr} {s' : State}

/-- With no other agent acting, the word read is still in its place when the instruction goes on (rule R76). -/
theorem withEffective_read_gap (h : Reaches s b m b' m' s') (hq : s'.Quiet)
    (hp : s'.present (modified s' b' m') = true) (rest : Addr → Word → State → Res State) :
    withEffective s b m (fun e s => withRead s e fun x s => andThen (gap s) (rest e x)) =
      rest (modified s' b' m') (s'.word (modified s' b' m')) (s'.noteParity (modified s' b' m')) := by
  rw [withEffective_reaches s b m b' m' s' h, withRead_present s' _ _ hp, gap_quiet (s'.noteParity _) hq, andThen_next]

theorem replaceWith_reaches (h : Reaches s b m b' m' s') (hq : s'.Quiet)
    (hp : s'.present (modified s' b' m') = true) (y : State → Word) :
    let e := modified s' b' m'
    let r := s'.noteParity e
    replaceWith s b m y = storeNext (storeWord (r.summed (s'.word e) (y r)) e (ocAdd (s'.word e) (y r))) :=
  withEffective_read_gap h hq hp fun e x s => storeNext (storeWord (s.summed x (y s)) e (ocAdd x (y s)))

/-- The rotated word is written in bounds only, and the sign it had decides the skip (rule R226). -/
theorem execSsh_reaches (h : Reaches s b m b' m' s') (hq : s'.Quiet) (hp : s'.present (modified s' b' m') = true) :
    let e := modified s' b' m'
    let x := s'.word e
    execSsh b m s = andThen (storeWord (s'.noteParity e) e (x.rotateLeft 1)) fun t => .next (t.skipIf x.msb) :=
  withEffective_read_gap h hq hp fun e x s =>
    andThen (storeWord s e (x.rotateLeft 1)) fun s => .next (s.skipIf x.msb)

end ReadAndWrite

/-- Settles O37: each adds its own quantity to the operand and makes a checked write of the sum
(`replaceWith_reaches`). -/
theorem replaceResults : Obligations.ReplaceResults := by
  intro b m s b' m' s' h hq hp e x p hmem t
  obtain ⟨y, hexec, hy⟩ : ∃ y, exec p.1 s = replaceWith s b m y ∧ y (s'.noteParity e) = p.2 := by
    simp only [List.mem_cons, List.not_mem_nil, or_false] at hmem
    obtain rfl | rfl | rfl | rfl := hmem
    exacts [⟨fun s => s.a, rfl, rfl⟩, ⟨fun s => ~~~s.a, rfl, rfl⟩, ⟨fun _ => 1, rfl, rfl⟩, ⟨fun _ => ~~~1, rfl, rfl⟩]
  have go : exec p.1 s = storeNext (storeWord t e (ocAdd x p.2)) := by
    rw [hexec, replaceWith_reaches h hq hp, hy]
    rfl
  refine ⟨fun ha => ?stored, fun ha => ?out⟩
  case stored => rw [go, storeWord, storeNext_storeCell (s := t) ha hp]
  case out =>
    rw [go, storeWord, storeNext_storeCell_out (s := t) ha]
    rfl

/-- A test of a word's sign skips to the next step, or goes on (rule R225). -/
theorem skipIf_msb (s : State) (x : Word) :
    s.skipIf x.msb = if x.getLsbD 47 = true then { s with p := s.p + 1, h := .upper } else s.advance := by
  rw [BitVec.msb_eq_getLsbD_last]
  rfl

/-- Settles O38: the sign of the word read decides the skip (`skipIf_msb`), whatever SSH then writes. -/
theorem storageTests : Obligations.StorageTests := by
  refine ⟨?tests, State.skip_lower⟩
  intro b m s b' m' s' h hp e x t goOn
  have skips (t : State) : t.skipIf x.msb = goOn t := skipIf_msb t x
  refine ⟨?ssk, fun hq ha => ?ssh, fun hq ha => ?sshOut⟩
  case ssk => rw [exec, execSsk, withOperand_reaches s b m b' m' s' h hp, skips]
  case ssh =>
    rw [exec, execSsh_reaches h hq hp, storeWord, storeCell_done t e _ ha hp, andThen_next, skips]
  case sshOut =>
    rw [exec, execSsh_reaches h hq hp, storeWord, storeCell_out t e _ ha, andThen_next, skips]
    rfl

/-! ## The tests of the searches -/

/-- The equality of EQS and MEQ is that of the quantities (rule R231). -/
theorem sameQuantity_eq (x a : Word) : sameQuantity x a = decide (ocVal x = ocVal a) := by
  have hx := x.isLt
  have ha := a.isLt
  rw [Bool.eq_iff_iff, sameQuantity, Bool.or_eq_true, Bool.and_eq_true, ocZero_iff (by decide), ocZero_iff (by decide),
    decide_eq_true_eq, decide_eq_true_eq, ← BitVec.toNat_inj, ocVal_eq_toNat, ocVal_eq_toNat]
  split_ifs <;> omega

/-- The comparison of THS and MTH is that of the quantities, but that +0 is above -0 (rule R232, decision D36). -/
theorem greater_eq (x a : Word) :
    greater x a = (decide (ocVal a < ocVal x) || (decide (x = 0) && decide (a = BitVec.allOnes 48))) := by
  have hx := x.isLt
  have ha := a.isLt
  rw [Bool.eq_iff_iff, greater, Bool.or_eq_true, Bool.and_eq_true, decide_eq_true_eq, decide_eq_true_eq,
    decide_eq_true_eq, decide_eq_true_eq, eq_allOnes_iff_toNat, ← BitVec.toNat_inj, ocVal_eq_toNat, ocVal_eq_toNat,
    BitVec.toInt_eq_toNat_cond, BitVec.toInt_eq_toNat_cond, show (0 : Word).toNat = 0 from BitVec.toNat_zero]
  split_ifs <;> omega

/-! ## An index register written again -/

theorem State.setIndex_index_same (s : State) {b : BitVec 3} (v : Addr) (h0 : b ≠ 0) (h7 : b ≠ 7) :
    (s.setIndex b v).index b = v := s.b.get_set_same b v h0 h7

theorem State.setIndex_setIndex (s : State) (b : BitVec 3) (v w : Addr) :
    (s.setIndex b v).setIndex b w = s.setIndex b w := by
  rcases designator_cases b with rfl | rfl | rfl | rfl | rfl | rfl | rfl | rfl <;> rfl

theorem State.setIndex_index (s : State) (b : BitVec 3) : s.setIndex b (s.index b) = s := by
  rcases designator_cases b with rfl | rfl | rfl | rfl | rfl | rfl | rfl | rfl <;> rfl

/-! ## The list -/

/-- A reference to a word of good parity changes nothing. -/
theorem withRead_good {s : State} (hgood : GoodParity s) {a : Addr} (hp : s.present a = true)
    (rest : Word → State → Res State) : withRead s a rest = rest (s.word a) s := by
  rw [withRead_present s a rest hp, State.noteParity_good s a (hgood a)]

/-- The word of the list at m that is examined when the count is reduced to k (rule R230). -/
def State.listed (s : State) (m : Addr) (k : Nat) : Word := s.word (ocAdd m (BitVec.ofNat 15 k))

/-- A count of more than none is not the pattern of zero (decision D9). -/
theorem ofNat_succ_ne_zero {n : Nat} (hn : n + 1 < 2 ^ 15) : BitVec.ofNat 15 (n + 1) ≠ 0 := by
  rw [ne_eq, ← BitVec.toNat_inj, BitVec.toNat_ofNat, Nat.mod_eq_of_lt hn]
  exact n.succ_ne_zero

theorem countDown_ofNat_succ {n : Nat} (hn : n + 1 < 2 ^ 15) :
    countDown (BitVec.ofNat 15 (n + 1)) = BitVec.ofNat 15 n := by
  rw [countDown_eq _ (ofNat_succ_ne_zero hn), BitVec.toNat_ofNat, Nat.mod_eq_of_lt hn, Nat.add_sub_cancel]

section Lists

variable {s : State} (hq : s.Quiet) (hgood : GoodParity s) (hall : ∀ a, s.present a = true)
  {b : BitVec 3} (h0 : b ≠ 0) (h7 : b ≠ 7) (m : Addr) {hit : Word → State → Bool} {test : Word → Bool}
  (htest : ∀ x v, hit x (s.setIndex b v) = test x)
include hq hgood hall h0 h7 htest

/-- One word of the list: the count is reduced, and a word that does not hit leaves the rest of the list to be searched,
if any is left (rule R230). -/
theorem searchList_succ {n : Nat} (hn : n + 1 < 2 ^ 15) :
    let t := s.setIndex b (BitVec.ofNat 15 n)
    searchList hit b m (n + 1) (s.setIndex b (BitVec.ofNat 15 (n + 1))) =
      if test (s.listed m n) = true then .next t.skip else searchList hit b m n t := by
  intro t
  have hindex : t.index b = BitVec.ofNat 15 n := s.setIndex_index_same _ h0 h7
  have hread (rest : Word → State → Res State) :
      withRead t (ocAdd m (BitVec.ofNat 15 n)) rest = rest (s.listed m n) t :=
    withRead_good (s := t) hgood (hall _) rest
  rw [searchList, s.setIndex_index_same _ h0 h7, countDown_ofNat_succ hn, s.setIndex_setIndex, hindex, hread, htest,
    hindex, gap_quiet t hq, andThen_next]
  cases n with
  | zero => rfl
  | succ n => rw [if_neg (ofNat_succ_ne_zero (n := n) (by omega))]

/-- The search ends at the last word that hits (rule R230). -/
theorem searchList_hit {n k : Nat} (hn : n < 2 ^ 15) (hk : k < n) (hhit : test (s.listed m k) = true)
    (hmiss : ∀ j < n, k < j → test (s.listed m j) = false) :
    searchList hit b m n (s.setIndex b (BitVec.ofNat 15 n)) = .next (s.setIndex b (BitVec.ofNat 15 k)).skip := by
  induction n with
  | zero => exact absurd hk k.not_lt_zero
  | succ n ih =>
    rw [searchList_succ hq hgood hall h0 h7 m htest hn]
    obtain rfl | hlt : k = n ∨ k < n := by omega
    case inl => rw [if_pos hhit]
    case inr =>
      rw [hmiss n n.lt_succ_self hlt, if_neg Bool.false_ne_true]
      exact ih (by omega) hlt fun j hj => hmiss j (by omega)

/-- Without a hit the count is used up, and there is no skip (rule R230). -/
theorem searchList_miss {n : Nat} (hn : n < 2 ^ 15) (hmiss : ∀ j < n, test (s.listed m j) = false) :
    searchList hit b m n (s.setIndex b (BitVec.ofNat 15 n)) = .next (s.setIndex b 0).advance := by
  induction n with
  | zero => rfl
  | succ n ih =>
    rw [searchList_succ hq hgood hall h0 h7 m htest hn, hmiss n n.lt_succ_self, if_neg Bool.false_ne_true]
    exact ih (by omega) fun j hj => hmiss j (by omega)

end Lists

/-- A search whose test looks at no index register: of a list it ends as `searchList_hit` and `searchList_miss` say, and
with designator 0 it is of the one word at m (rule R230). -/
theorem search_reaches {s : State} {b : BitVec 3} {m : Addr} {b' : BitVec 3} {m' : Addr} {s' : State}
    (h : Reaches s b m b' m' s') (hq : s'.Quiet) (hgood : GoodParity s') (hall : ∀ a, s'.present a = true)
    {i : Instr} {hit : Word → State → Bool} {test : Word → Bool} (hexec : exec i s = search s b m hit)
    (htest : ∀ x v, hit x (s'.setIndex b' v) = test x) :
    (b' ≠ 0 → SearchEnds i test b' m' s s') ∧
    (b' = 0 → exec i s = .next (if test (s'.word m') = true then s'.skip else s'.advance)) := by
  rw [search, withResolved_reaches s b m b' m' s' h] at hexec
  refine ⟨fun h0 => ?list, fun h0 => ?word⟩
  case list =>
    have hcount : s'.setIndex b' (BitVec.ofNat 15 (s'.index b').toNat) = s' := by
      rw [BitVec.ofNat_toNat, BitVec.setWidth_eq, s'.setIndex_index]
    have go : exec i s = searchList hit b' m' (s'.index b').toNat
        (s'.setIndex b' (BitVec.ofNat 15 (s'.index b').toNat)) := by
      rw [hexec, if_neg h0, hcount]
    refine ⟨fun k hk hhit hmiss => ?hits, fun hmiss => ?misses⟩
    case hits => exact go.trans (searchList_hit hq hgood hall h0 h.designator m' htest (BitVec.isLt _) hk hhit hmiss)
    case misses => exact go.trans (searchList_miss hq hgood hall h0 h.designator m' htest (BitVec.isLt _) hmiss)
  case word =>
    subst h0
    rw [hexec, if_pos rfl, withRead_good hgood (hall m')]
    exact congrArg _ (congrArg s'.skipIf (htest (s'.word m') 0))

/-- Settles O39: a search by its test (`search_reaches`), which is the stated one on quantities (`sameQuantity_eq`,
`greater_eq`). -/
theorem searches : Obligations.Searches := by
  intro b m s b' m' s' h hq hgood hall above p hmem
  obtain ⟨hit, hexec, htest⟩ : ∃ hit, exec p.1 s = search s b m hit ∧ ∀ x v, hit x (s'.setIndex b' v) = p.2 x := by
    simp only [List.mem_cons, List.not_mem_nil, or_false] at hmem
    obtain rfl | rfl | rfl | rfl := hmem
    exacts [⟨_, rfl, fun x _ => sameQuantity_eq x s'.a⟩, ⟨_, rfl, fun x _ => greater_eq x s'.a⟩,
      ⟨_, rfl, fun x _ => sameQuantity_eq (s'.q &&& x) s'.a⟩, ⟨_, rfl, fun x _ => greater_eq (s'.q &&& x) s'.a⟩]
  exact search_reaches h hq hgood hall hexec htest

end Sys2Proof.Machine
end

section
/-! Jumps and stops (rule R240 to rule R252): a normal jump, a return jump and a selective stop under a condition, and
the Go switch, which makes the jump a selective stop still holds. -/

namespace Sys2Proof.Machine

/-! ## The condition of the register jumps -/

/-- Zero is either pattern of it, and the sign is bit 47 (rule R9, rule R242, rule R244). -/
theorem jumpCondition_iff (j : BitVec 2) (x : Word) : jumpCondition j x = true ↔ JumpTest j x := by
  have hcases : j = 0 ∨ j = 1 ∨ j = 2 ∨ j = 3 := by
    revert j
    decide
  obtain rfl | rfl | rfl | rfl := hcases
  case inl => simp [jumpCondition, JumpTest, ocZero_iff]
  case inr.inl => simp [jumpCondition, JumpTest, ← ocZero_iff]
  case inr.inr.inl => simp [jumpCondition, JumpTest, BitVec.msb_eq_getLsbD_last]
  case inr.inr.inr => simp [jumpCondition, JumpTest, BitVec.msb_eq_getLsbD_last]

section Conditional

variable {s : State} {m : Addr} {c : Bool} {cond : Prop}

/-! ## The jumps -/

/-- In bounds a normal jump goes to the upper instruction (rule R240). -/
theorem jump_in (hret : s.ret = none) (ha : s.allowed m = true) : jump s m = .next (s.atUpper m) :=
  jumpElse_in s m State.advance hret ha

/-- Out of bounds it is not made, and the next instruction follows (rule R251). -/
theorem jump_out (hret : s.ret = none) (ha : s.allowed m = false) : jump s m = .next s.violation.advance :=
  jumpElse_out s m State.advance hret ha

/-- A normal jump under a condition: made, refused by the bounds check, or passed by (rule R240, rule R251). -/
theorem jumpIf_spec (hc : c = true ↔ cond) (hret : s.ret = none) :
    (cond → s.allowed m = true → jumpIf c s m = .next (s.atUpper m)) ∧
    (cond → s.allowed m = false → jumpIf c s m = .next s.violation.advance) ∧
    (¬cond → jumpIf c s m = .next s.advance) := by
  rw [← hc, jumpIf]
  refine ⟨fun h ha => ?made, fun h ha => ?refused, fun h => ?passed⟩
  case made => rw [if_pos h, jump_in hret ha]
  case refused => rw [if_pos h, jump_out hret ha]
  case passed => rw [if_neg h]

/-- A return jump under a condition (rule R241, rule R251, decision D16). -/
theorem returnJumpIf_spec (hc : c = true ↔ cond) (hq : s.Quiet) :
    (cond → s.allowed m = true → s.enterable m (s.p + 1) →
      returnJumpIf c s m = .next (s.through m (s.p + 1))) ∧
    (cond → s.allowed m = false → returnJumpIf c s m = .next s.violation.advance) ∧
    (¬cond → returnJumpIf c s m = .next s.advance) := by
  rw [← hc, returnJumpIf]
  refine ⟨fun h ha he => ?made, fun h ha => ?refused, fun h => ?passed⟩
  case made => rw [if_pos h, returnJump_done s m hq ha he]
  case refused => rw [if_pos h, returnJump_out s m ha]
  case passed => rw [if_neg h]

/-! ## The selective stops -/

theorem stopIf_stops (hc : c = true ↔ cond) (ret : Bool) (h : cond) :
    stopIf c ret s m = .next { s with run := .stopped (.sls ret m false) } := by rw [stopIf, if_pos (hc.mpr h)]

theorem stopIf_goes_on (hc : c = true ↔ cond) (ret : Bool) (h : ¬cond) : stopIf c ret s m = stopJump ret s m := by
  rw [stopIf, if_neg (mt hc.mp h)]

/-- A selective stop, or the normal jump it holds (rule R249, rule R251). -/
theorem stopIf_jump_spec (hc : c = true ↔ cond) :
    (cond → stopIf c false s m = .next { s with run := .stopped (.sls false m false) }) ∧
    (¬cond → s.ret = none → s.allowed m = true → stopIf c false s m = .next (s.atUpper m)) ∧
    (¬cond → s.ret = none → s.allowed m = false → stopIf c false s m = .next s.violation.advance) :=
  ⟨stopIf_stops hc false, fun h hret ha => (stopIf_goes_on hc false h).trans (jump_in hret ha),
    fun h hret ha => (stopIf_goes_on hc false h).trans (jump_out hret ha)⟩

/-- A selective stop, or the return jump it holds (rule R250, rule R251, decision D16). -/
theorem stopIf_returnJump_spec (hc : c = true ↔ cond) :
    (cond → stopIf c true s m = .next { s with run := .stopped (.sls true m false) }) ∧
    (¬cond → s.allowed m = true → s.Quiet → s.enterable m (s.p + 1) →
      stopIf c true s m = .next (s.through m (s.p + 1))) ∧
    (¬cond → s.allowed m = false → stopIf c true s m = .next s.violation.advance) :=
  ⟨stopIf_stops hc true, fun h ha hq he => (stopIf_goes_on hc true h).trans (returnJump_done s m hq ha he),
    fun h ha => (stopIf_goes_on hc true h).trans (returnJump_out s m ha)⟩

end Conditional

/-! ## The Go switch -/

/-- The computer runs again, with everything else as it was. -/
def State.resumed (s : State) : State := { s with run := .running }

theorem deliver_go_live {s : State} (hlive : s.switchesLive = true) : deliver .go s = go s := by
  rw [deliver, operate, if_pos hlive]

/-- After a selective stop the Go switch makes the jump that the stop holds, and the instruction ends (rule R252). -/
theorem go_selectiveStop {s : State} {ret : Bool} {m : Addr} {off : Bool} (hrun : s.run = .stopped (.sls ret m off))
    {t : State} (hjump : stopJump ret s.resumed m = .next t) :
    go s = andThen (finish s.h t) fun u => .next (stopIfOff off u) := by
  rw [go, hrun]
  exact congrArg (fun r => andThen (andThen r (finish s.h)) fun u => .next (stopIfOff off u)) hjump

/-- After a parity stop at an upper instruction the interrupts are sampled, and else the word is to be read again, as by
any upper instruction that is next (rule R456, decision D35). -/
theorem go_parityStop {s : State} (hrun : s.run = .stopped .instructionParity) (hupper : s.h = .upper) :
    go s = sample s.resumed := by
  cases s
  cases hrun
  cases hupper
  rfl

/-! ## The statements -/

/-- Settles O40: each is a normal jump under a condition (`jumpIf_spec`), that of a register by `jumpCondition_iff`. -/
theorem normalJumps : Obligations.NormalJumps := by
  intro j m s hret
  simp only [List.forall_mem_cons]
  refine ⟨?ajp, ?qjp, ?slj, ?sj1, ?sj2, ?sj3, List.forall_mem_nil _⟩
  case ajp => exact jumpIf_spec (jumpCondition_iff j s.a) hret
  case qjp => exact jumpIf_spec (jumpCondition_iff j s.q) hret
  case slj => exact jumpIf_spec (c := true) (iff_of_true rfl trivial) hret
  case sj1 => exact jumpIf_spec .rfl hret
  case sj2 => exact jumpIf_spec .rfl hret
  case sj3 => exact jumpIf_spec .rfl hret

/-- Settles O41: each is a return jump under a condition (`returnJumpIf_spec`), that of a register by
`jumpCondition_iff`. -/
theorem returnJumps : Obligations.ReturnJumps := by
  intro j m s hq
  simp only [List.forall_mem_cons]
  refine ⟨?arj, ?qrj, ?rtj, ?rj1, ?rj2, ?rj3, List.forall_mem_nil _⟩
  case arj => exact returnJumpIf_spec (jumpCondition_iff j s.a) hq
  case qrj => exact returnJumpIf_spec (jumpCondition_iff j s.q) hq
  case rtj => exact returnJumpIf_spec (c := true) (iff_of_true rfl trivial) hq
  case rj1 => exact returnJumpIf_spec .rfl hq
  case rj2 => exact returnJumpIf_spec .rfl hq
  case rj3 => exact returnJumpIf_spec .rfl hq

/-- Settles O42: each is a stop under a condition, and without it the jump that the stop holds (`stopIf_jump_spec`,
`stopIf_returnJump_spec`); a Stop switch is read together with the maintenance mode. -/
theorem selectiveStops : Obligations.SelectiveStops := by
  intro m s sw out
  have always : true = true ↔ True := iff_of_true rfl trivial
  have live (on : Bool) : (s.console.maint && on) = true ↔ sw on := Bool.and_eq_true_iff
  simp only [List.forall_mem_cons]
  refine ⟨⟨?sls, ?ss1, ?ss2, ?ss3, List.forall_mem_nil _⟩, ⟨?srj, ?sr1, ?sr2, ?sr3, List.forall_mem_nil _⟩⟩
  case sls => exact stopIf_jump_spec always
  case ss1 => exact stopIf_jump_spec (live s.console.stop1)
  case ss2 => exact stopIf_jump_spec (live s.console.stop2)
  case ss3 => exact stopIf_jump_spec (live s.console.stop3)
  case srj => exact stopIf_returnJump_spec always
  case sr1 => exact stopIf_returnJump_spec (live s.console.stop1)
  case sr2 => exact stopIf_returnJump_spec (live s.console.stop2)
  case sr3 => exact stopIf_returnJump_spec (live s.console.stop3)

/-- Settles O43: the jump is that of the computer running again (`go_selectiveStop`), whose bounds and storage are those
of the stop; a parity stop is followed by the sampling (`go_parityStop`). -/
theorem goSwitch : Obligations.GoSwitch := by
  refine ⟨fun s m off hlive => ?stop, fun s hlive hrun hupper => ?parity⟩
  case stop =>
    intro r out ended
    have make {ret : Bool} {t : State} (hrun : s.run = .stopped (.sls ret m off))
        (hjump : stopJump ret r m = .next t) : deliver .go s = ended t :=
      (deliver_go_live hlive).trans (go_selectiveStop hrun hjump)
    refine ⟨fun hrun hret => ⟨fun ha => ?jumps, fun ha => ?jumpRefused⟩,
      fun hrun => ⟨fun ha hq he => ?returns, fun ha => ?returnRefused⟩⟩
    case jumps => exact make hrun (jump_in (s := r) hret ha)
    case jumpRefused => exact make hrun (jump_out (s := r) hret ha)
    case returns => exact make hrun (returnJump_done r m hq ha he)
    case returnRefused => exact make hrun (returnJump_out r m ha)
  case parity =>
    intro r
    have go_samples : deliver .go s = sample r := (deliver_go_live hlive).trans (go_parityStop hrun hupper)
    exact ⟨fun hpending => go_samples.trans (sample_pending r hpending),
      fun hnone => go_samples.trans (sample_quiet r hnone)⟩

end Sys2Proof.Machine
end

section
/-! Character handling (rule R260, rule R261) and internal control (rule R265 to rule R287): the bits of a character
loaded and stored, the tables of the codes of INF and SEN, and what AUG, EUB and ELB do. -/

namespace Sys2Proof.Machine

/-! ## Characters -/

/-- The bits of the character whose lowest bit is n (rule R260). -/
theorem characterAt_getLsbD (x : Word) (n i : Nat) :
    (characterAt x n).getLsbD i = (decide (i < 6) && x.getLsbD (n + i)) := by
  rw [characterAt, BitVec.getLsbD_extractLsb']

/-- The word of six ones that marks a character. -/
theorem characterMask_getLsbD (i : Nat) : (0o77#48).getLsbD i = decide (i < 6) := by
  by_cases hi : i < 48
  · exact (by decide : ∀ i < 48, (0o77#48).getLsbD i = decide (i < 6)) i hi
  · rw [BitVec.getLsbD_of_ge _ _ (by omega), decide_eq_false (by omega)]

/-- A character replaced: its six bits are the new ones, the others as they were (rule R261). -/
theorem withCharacter_getLsbD (x : Word) (n : Nat) (c : BitVec 6) {i : Nat} (hi : i < 48) :
    (withCharacter x n c).getLsbD i = if n ≤ i ∧ i < n + 6 then c.getLsbD (i - n) else x.getLsbD i := by
  simp only [withCharacter, BitVec.getLsbD_or, BitVec.getLsbD_and, BitVec.getLsbD_not, BitVec.getLsbD_shiftLeft,
    BitVec.getLsbD_setWidth, characterMask_getLsbD]
  by_cases hbelow : i < n
  · simp [hi, hbelow, show ¬n ≤ i by omega]
  by_cases habove : n + 6 ≤ i
  · simp [hi, hbelow, show ¬i < n + 6 by omega, show ¬i - n < 6 by omega, show 6 ≤ i - n by omega]
  · simp [hi, hbelow, show n ≤ i by omega, show i < n + 6 by omega, show i - n < 6 by omega,
      show i - n < 48 by omega]

/-- The selectors of the table, in a register that exists (rule R260). -/
theorem selectorListed_of_mem {s : State} {v : BitVec 3} (h0 : v ≠ 0) (h7 : v ≠ 7)
    (hn : (s.index v).toNat ∈ [0, 6, 12, 18, 24, 30, 36, 42]) : selectorListed s v = true := by
  have listed : ∀ n ∈ [0, 6, 12, 18, 24, 30, 36, 42], n % 6 = 0 ∧ n ≤ 42 := by decide
  obtain ⟨hsix, hle⟩ := listed _ hn
  rw [selectorListed, (namesIndex_iff v).mpr ⟨h0, h7⟩, decide_eq_true hsix, decide_eq_true hle]
  rfl

/-- Indirect addressing leaves the other agents as they are, and the index registers. -/
theorem Reaches.stays_quiet {s : State} {b : BitVec 3} {m : Addr} {b' : BitVec 3} {m' : Addr} {s' : State}
    (h : Reaches s b m b' m' s') (hq : s.Quiet) : s'.Quiet := (keeps_resolve (w := anyWord) h).quiet hq

theorem Reaches.index_eq {s : State} {b : BitVec 3} {m : Addr} {b' : BitVec 3} {m' : Addr} {s' : State}
    (h : Reaches s b m b' m' s') (v : BitVec 3) : s'.index v = s.index v := congrArg (·.get v) h.frame.b

/-- Settles O44: the word read at M gives the character, or is written back with it replaced
(`withEffective_read_gap`). -/
theorem characters : Obligations.Characters := by
  intro b v m s n h0 h7 hn hq b' m' s' h hp e x t
  have hlisted : selectorListed s v = true := selectorListed_of_mem h0 h7 hn
  have hindex : (t.index v).toNat = n := congrArg BitVec.toNat (h.index_eq v)
  let stored : Word := withCharacter x n (s'.a.extractLsb' 0 6)
  have stc : exec (.stc b v m) s = andThen (storeWord t e stored) fun s => .next s.nextStep := by
    rw [exec, execStc, if_pos hlisted]
    refine (withEffective_read_gap h (h.stays_quiet hq) hp fun e x s =>
      andThen (storeWord s e (withCharacter x (s.index v).toNat (s.a.extractLsb' 0 6)))
        fun s => .next s.nextStep).trans ?_
    rw [hindex]
    rfl
  refine ⟨⟨(characterAt x n).setWidth 48, ?ldc, fun i hi => ?loaded⟩, fun ha => ⟨stored, ?stc, fun i hi => ?bits⟩,
    fun ha => ?out⟩
  case ldc =>
    rw [exec, execLdc, if_pos hlisted, withOperand_reaches s b m b' m' s' h hp, hindex]
    rfl
  case loaded => rw [BitVec.getLsbD_setWidth, decide_eq_true hi, Bool.true_and, characterAt_getLsbD]
  case stc =>
    rw [stc, storeWord, storeCell_done t e _ ha hp]
    rfl
  case bits =>
    rw [withCharacter_getLsbD x n _ hi]
    split
    · next hin => rw [BitVec.getLsbD_extractLsb', decide_eq_true (by omega), Bool.true_and, Nat.zero_add]
    · rfl
  case out =>
    rw [stc, storeWord, storeCell_out t e _ ha]
    rfl

/-! ## INF -/

/-- A listed code does its operation, and the next instruction follows (rule R265). -/
theorem execInf_listed {y : Addr} {o : InfOp} (h : infOperation y = some o) (s : State) :
    exec (.inf y) s = .next (applyInf o s).advance := by rw [exec, execInf, h]

/-- The codes of a channel's bits (rule R266, rule R268, rule R269). -/
theorem infOperation_channel : ∀ x < 4,
    infOperation (BitVec.ofNat 15 (0o00000 + 8 * x)) = some (.selectInactive x) ∧
    infOperation (BitVec.ofNat 15 (0o00001 + 8 * x)) = some (.clearInactive x) ∧
    infOperation (BitVec.ofNat 15 (0o00200 + 8 * x)) = some (.mask (30 + x) true) ∧
    infOperation (BitVec.ofNat 15 (0o00201 + 8 * x)) = some (.mask (30 + x) false) ∧
    infOperation (BitVec.ofNat 15 (0o00300 + 8 * x)) = some (.mask (20 + x) true) ∧
    infOperation (BitVec.ofNat 15 (0o00301 + 8 * x)) = some (.mask (20 + x) false) := by decide

/-- The codes of an arithmetic fault (rule R270). -/
theorem infOperation_fault : ∀ n ∈ [1, 2, 3, 4, 5],
    infOperation (BitVec.ofNat 15 (0o00400 + 8 * n)) = some (.mask n true) ∧
    infOperation (BitVec.ofNat 15 (0o00401 + 8 * n)) = some (.mask n false) ∧
    infOperation (BitVec.ofNat 15 (0o00402 + 8 * n)) = some (.clearFault n) := by decide

/-- Bits cleared in copies of one register are cleared together. -/
theorem and_and_clearBit (w x : Word) (n : Nat) : (w &&& x) &&& clearBit w n = w &&& (x &&& ~~~(1#48 <<< n)) := by
  refine BitVec.eq_of_getLsbD_eq fun i hi => ?_
  simp only [clearBit, BitVec.getLsbD_and]
  cases w.getLsbD i <;> simp

/-- 00400 clears the five arithmetic faults, bits 1 to 5 (rule R270). -/
theorem applyInf_clearFaults (s : State) :
    applyInf .clearFaults s =
      { s with
        irLatch := clearBit s.irLatch 1 &&& clearBit s.irLatch 2 &&& clearBit s.irLatch 3 &&& clearBit s.irLatch 4 &&&
          clearBit s.irLatch 5 } := by
  have together : clearBit s.irLatch 1 &&& clearBit s.irLatch 2 &&& clearBit s.irLatch 3 &&& clearBit s.irLatch 4 &&&
      clearBit s.irLatch 5 = s.irLatch &&& ~~~0o76#48 := by
    rw [show clearBit s.irLatch 1 = s.irLatch &&& ~~~(1#48 <<< 1) from rfl, and_and_clearBit, and_and_clearBit,
      and_and_clearBit, and_and_clearBit]
    rfl
  rw [together, applyInf]

/-- Settles O45: each code by its entry in the tables (`infOperation_channel`, `infOperation_fault`, and the single
codes by evaluation), and what the operation does. -/
theorem internalFunctions : Obligations.InternalFunctions := by
  intro s does maskOn maskOff irOff
  have listed {code : Nat} {o : InfOp} {t : State} (ho : infOperation (BitVec.ofNat 15 code) = some o)
      (ht : applyInf o s = t) : does code t := ht ▸ execInf_listed ho s
  refine ⟨fun x hx => ?channel, fun n hn => ?fault, listed rfl (applyInf_clearFaults s), ?single⟩
  case channel =>
    obtain ⟨hselect, hclear, hext, hextOff, hparity, hparityOff⟩ := infOperation_channel x hx
    exact ⟨listed hselect rfl, listed hclear rfl, listed hext rfl, listed hextOff rfl, listed hparity rfl,
      listed hparityOff rfl⟩
  case fault =>
    obtain ⟨hon, hoff, hclear⟩ := infOperation_fault n hn
    exact ⟨listed hon rfl, listed hoff rfl, listed hclear rfl⟩
  case single =>
    -- The Exit flip-flops (rule R267), Manual Interrupt (rule R272), the parity errors (rule R273), Out of Bounds
    -- (rule R274), Interrupt Active and the whole system (rule R275, rule R276).
    exact ⟨listed rfl rfl, listed rfl rfl, listed rfl rfl, listed rfl rfl,
      listed rfl rfl, listed rfl rfl,
      listed rfl rfl, listed rfl rfl, listed rfl rfl, listed rfl rfl, listed rfl rfl, listed rfl rfl,
      listed rfl rfl, listed rfl rfl,
      listed rfl rfl, listed rfl rfl, listed rfl rfl⟩

/-! ## SEN, CIS, CPR -/

/-- From the upper position a skip leads to the next step, and else the lower instruction follows (rule R108). -/
theorem State.skipIf_upper {s : State} (hh : s.h = .upper) (c : Bool) :
    s.skipIf c = if c = true then { s with p := s.p + 1 } else { s with h := .lower } := by
  cases c
  case false => exact s.advance_upper hh
  case true => rw [State.skipIf_true, State.nextStep, ← hh, if_pos rfl]

/-- In the upper position a listed code skips on its condition (rule R277). -/
theorem execSen_listed {y : Addr} {s : State} {c : Bool} (hh : s.h = .upper) (h : senseCondition s y = some c) :
    exec (.sen y) s = .next (if c = true then { s with p := s.p + 1 } else { s with h := .lower }) := by
  have skips : execSen y s = .next (s.skipIf c) := by rw [execSen, hh, h]
  rw [exec, skips, State.skipIf_upper hh]

/-- In the lower position SEN is a pass code (rule R277). -/
theorem execSen_lower {s : State} (hh : s.h = .lower) (y : Addr) : exec (.sen y) s = .next s.advance := by
  rw [exec, execSen, hh]

/-- The codes of a channel's activity (rule R277). -/
theorem senseCondition_channel (s : State) {x : Nat} (hx : x < 4) :
    senseCondition s (BitVec.ofNat 15 (8 * x)) = some !(s.channel x).act ∧
    senseCondition s (BitVec.ofNat 15 (8 * x + 1)) = some (s.channel x).act := by
  have hcases : x = 0 ∨ x = 1 ∨ x = 2 ∨ x = 3 := by omega
  rcases hcases with rfl | rfl | rfl | rfl
  all_goals exact ⟨rfl, congrArg some (Bool.not_not _)⟩

/-- The positions the Interrupt register has a bit for (rule R27). -/
theorem ir_getLsbD_unused (s : State) (n : Nat)
    (hn : n ∉ [1, 2, 3, 4, 5, 10, 11, 12, 13, 20, 21, 22, 23, 30, 31, 32, 33, 42, 43, 44, 45, 46]) :
    s.ir.getLsbD n = false := by
  have unused : ∀ n < 48, n ∉ [1, 2, 3, 4, 5, 10, 11, 12, 13, 20, 21, 22, 23, 30, 31, 32, 33, 42, 43, 44, 45, 46] →
      n ∉ [30, 31, 32, 33] ∧ latchedBits.getLsbD n = false := by decide
  by_cases hlt : n < 48
  · obtain ⟨hlines, hlatched⟩ := unused n hlt hn
    rw [ir_getLsbD_latched s n hlines, hlatched, Bool.and_false]
  · exact BitVec.getLsbD_of_ge _ _ (by omega)

/-- Settles O46: SEN by its table (`execSen_listed`, `senseCondition_channel`), CIS and CPR by what they copy. -/
theorem senseAndCopy : Obligations.SenseAndCopy := by
  refine fun s => ⟨fun hh => ?upper, fun hh y => execSen_lower hh y, fun y => rfl, fun y => rfl, ir_getLsbD_unused s⟩
  intro senses
  have listed {code : Nat} {c : Bool} (h : senseCondition s (BitVec.ofNat 15 code) = some c) : senses code c :=
    execSen_listed hh h
  refine ⟨fun x hx => ?channel, listed rfl, listed rfl, listed rfl, listed rfl, listed rfl, listed rfl, listed rfl,
    listed rfl⟩
  obtain ⟨hinactive, hactive⟩ := senseCondition_channel s hx
  exact ⟨listed hinactive, listed hactive⟩

/-! ## AUG -/

/-- The magnitude of a word (rule R281). -/
theorem ocVal_mag (x : Word) : ocVal (mag x) = ((ocVal x).natAbs : Int) := by
  have hx := x.isLt
  simp only [mag, apply_ite ocVal, ocVal_eq_toNat, BitVec.toNat_not, BitVec.msb_eq_decide, decide_eq_true_eq]
  split_ifs <;> omega

/-- No AUG, or one in the lower position, leaves the operand as it is (rule R40). -/
theorem operand_plain {s : State} (h : s.h = .upper ∨ s.aug = none) (x : Word) : s.operand x = x := by
  have hnone : s.augment = 0 := by
    rw [State.augment]
    rcases h with h | h
    · rw [h]
    · rw [h]
      cases s.h <;> rfl
  rw [State.operand, hnone]
  rfl

/-- A designator t2 kept for the lower instruction asks for the magnitude (rule R281). -/
theorem ocVal_operand {s : State} {t : BitVec 3} (hh : s.h = .lower) (ht : s.aug = some t) (x : Word) :
    ocVal (s.operand x) = if t.getLsbD 2 = true then ((ocVal x).natAbs : Int) else ocVal x := by
  have haug : s.augment = t := by rw [State.augment, hh, ht]
  rw [State.operand, haug]
  split
  · exact ocVal_mag x
  · rfl

/-- Settles O47: AUG goes on with the address its designator v makes of that in U, in the state reached. -/
theorem augment : Obligations.Augment := by
  refine ⟨fun y s hh => ?pass, fun y s b' m' s' hh hq h => ?upper,
    fun s x => ⟨fun h => operand_plain h x, fun t hh ht => ocVal_operand hh ht x⟩⟩
  case pass => rw [exec, execAug, hh]
  case upper =>
    have hupper : s'.h = .upper := h.frame.h.trans hh
    have go (rest : Addr → State → Res State) :
        withEffective s (s.augV y) (lowerAddress s.u) rest = rest (modified s' b' m') s' :=
      withEffective_reaches s _ _ b' m' s' h rest
    simp only [exec, execAug, hh, go]
    exact congrArg _ (State.advance_upper _ hupper)

/-! ## EUB and ELB -/

/-- Bounds checking is in effect: Interrupt Active, and bit 42 of the mask (rule R458). -/
theorem checking_iff (s : State) : s.checking = true ↔ s.active = true ∧ s.im.getLsbD 42 = true := by
  rw [State.checking, Bool.and_eq_true]

/-- Settles O48: by whether bounds checking is in effect (`checking_iff`); where it is, the entry is that of an illegal
code (`raiseCategoryIII_done`). -/
theorem enterBounds : Obligations.EnterBounds := by
  intro y s v checking
  refine ⟨fun hno => ?legal, fun hyes hq he => ?illegal⟩
  case legal =>
    have hoff : ¬s.checking = true := mt (checking_iff s).mp hno
    rw [exec, exec, execEub, execElb, if_neg hoff, if_neg hoff]
    exact ⟨rfl, rfl⟩
  case illegal =>
    have hon : s.checking = true := (checking_iff s).mpr hyes
    rw [exec, exec, execEub, execElb, if_pos hon, if_pos hon, raiseCategoryIII_done s hq he]
    exact ⟨rfl, rfl⟩

end Sys2Proof.Machine
end

section
/-! Which instructions can touch the interrupt system, the console and the channels (rule R265, rule R306, rule R450):
one lemma for each shared operation says what it leaves as it was where no other agent acts, and an instruction leaves
what the operations it is made of do. -/

namespace Sys2Proof.Machine

/-! ## What is left as it was -/

/-- What a part of an instruction may touch: the channels; the Interrupt Mask register with the Interrupt Active
flip-flop, the Category I flip-flops and the time latch; the Category II flip-flops. -/
structure SystemSet where
  channels : Bool
  interrupts : Bool
  catII : Bool

/-- From s to t nothing of these outside the set was touched, nor the console switches, the parameters and what the
other agents are going to do inside instructions. -/
structure Leaves (w : SystemSet) (s t : State) : Prop where
  console : t.console = s.console
  params : t.params = s.params
  between : t.between = s.between
  channels : w.channels = false → t.channels = s.channels
  im : w.interrupts = false → t.im = s.im
  active : w.interrupts = false → t.active = s.active
  catI : w.interrupts = false → t.catI = s.catI
  timeLatch : w.interrupts = false → t.timeLatch = s.timeLatch
  catII : w.catII = false → t.catII = s.catII

/-- If this part of an instruction, begun in s with no other agent acting, goes on at all, it has touched nothing
outside the set. -/
def Leaving (w : SystemSet) (s : State) (r : Res State) : Prop := s.Quiet → ∀ t, r = .next t → Leaves w s t

section Updates
variable {w : SystemSet} {s t r : State}

/-- An update of none of these. -/
theorem Leaves.same (hcon : t.console = s.console := by rfl) (hpar : t.params = s.params := by rfl)
    (hbt : t.between = s.between := by rfl) (hch : t.channels = s.channels := by rfl) (him : t.im = s.im := by rfl)
    (hact : t.active = s.active := by rfl) (hI : t.catI = s.catI := by rfl)
    (htime : t.timeLatch = s.timeLatch := by rfl) (hII : t.catII = s.catII := by rfl) : Leaves w s t :=
  ⟨hcon, hpar, hbt, fun _ => hch, fun _ => him, fun _ => hact, fun _ => hI, fun _ => htime, fun _ => hII⟩

theorem Leaves.refl : Leaves w s s := .same

theorem Leaves.trans (h : Leaves w s t) (k : Leaves w t r) : Leaves w s r :=
  ⟨k.console.trans h.console, k.params.trans h.params, k.between.trans h.between,
    fun e => (k.channels e).trans (h.channels e), fun e => (k.im e).trans (h.im e),
    fun e => (k.active e).trans (h.active e), fun e => (k.catI e).trans (h.catI e),
    fun e => (k.timeLatch e).trans (h.timeLatch e), fun e => (k.catII e).trans (h.catII e)⟩

theorem Leaves.quiet (h : Leaves w s t) (hq : s.Quiet) : t.Quiet := h.between.trans hq

/-- Where the channels may be touched, an update of none of the others. -/
theorem leaves_channels (hw : w.channels = true) (hcon : t.console = s.console := by rfl)
    (hpar : t.params = s.params := by rfl) (hbt : t.between = s.between := by rfl) (him : t.im = s.im := by rfl)
    (hact : t.active = s.active := by rfl) (hI : t.catI = s.catI := by rfl)
    (htime : t.timeLatch = s.timeLatch := by rfl) (hII : t.catII = s.catII := by rfl) : Leaves w s t :=
  ⟨hcon, hpar, hbt, fun h => by simp [hw] at h, fun _ => him, fun _ => hact, fun _ => hI, fun _ => htime, fun _ => hII⟩

/-- Where the whole interrupt system may be touched, an update of none of the others. -/
theorem leaves_interrupts (hw : w.interrupts = true) (hII : w.catII = true) (hcon : t.console = s.console := by rfl)
    (hpar : t.params = s.params := by rfl) (hbt : t.between = s.between := by rfl)
    (hch : t.channels = s.channels := by rfl) : Leaves w s t :=
  ⟨hcon, hpar, hbt, fun _ => hch, fun h => by simp [hw] at h, fun h => by simp [hw] at h, fun h => by simp [hw] at h,
    fun h => by simp [hw] at h, fun h => by simp [hII] at h⟩

theorem leaves_setCatII (hw : w.catII = true) (x : CategoryII) : Leaves w s { s with catII := x } :=
  ⟨rfl, rfl, rfl, fun _ => rfl, fun _ => rfl, fun _ => rfl, fun _ => rfl, fun _ => rfl, fun h => by simp [hw] at h⟩

/-- Whatever a code of INF does, it leaves the console, the parameters and the channels (rule R265). -/
theorem leaves_applyInf (hw : w.interrupts = true) (hII : w.catII = true) (o : InfOp) :
    Leaves w s (applyInf o s) := by
  cases o <;> exact leaves_interrupts hw hII

theorem leaves_faultIf (c : Bool) (n : Nat) : Leaves w s (s.faultIf c n) := .same

theorem leaves_skipIf (c : Bool) : Leaves w s (s.skipIf c) := by
  cases c
  · exact .same
  · exact .same

theorem leaves_divideQA (d : Word) : Leaves w s (divideQA s d) := by
  rw [divideQA]
  split
  · exact .same
  · exact .same

end Updates

/-! ## Sequencing -/

section Operations
variable {w : SystemSet} {s t : State}

theorem leaving_next (h : Leaves w s t) : Leaving w s (.next t) := by
  rintro - _ ⟨⟩
  exact h

theorem leaving_refused (x : Refusal) : Leaving w s (.refused x) := by rintro - _ ⟨⟩

/-- A part of an instruction goes on from what has been touched before it. -/
theorem leaving_from {r : Res State} (h : Leaves w s t) (k : Leaving w t r) : Leaving w s r :=
  fun hq _ hr => h.trans (k (h.quiet hq) _ hr)

theorem leaving_andThen {r : Res State} {f : State → Res State} (h : Leaving w s r) (k : ∀ x, Leaving w x (f x)) :
    Leaving w s (andThen r f) := by
  intro hq t ht
  obtain ⟨x, hx, ht⟩ := (andThen_eq_next r f t).mp ht
  exact leaving_from (h hq x hx) (k x) hq t ht

theorem leaving_ite {c : Prop} [Decidable c] {r r' : Res State} (h : Leaving w s r) (k : Leaving w s r') :
    Leaving w s (if c then r else r') := by
  split
  · exact h
  · exact k

/-! ## Storage references and operands -/

/-- With no other agent acting nothing happens in a gap (rule R74). -/
theorem leaving_gap : Leaving w s (gap s) := fun hq => gap_quiet s hq ▸ leaving_next .refl hq

theorem leaving_withRead {a : Addr} {rest : Word → State → Res State} (h : ∀ x s, Leaving w s (rest x s)) :
    Leaving w s (withRead s a rest) :=
  leaving_ite (leaving_from .same (h _ _)) (leaving_refused _)

theorem leaving_storeCell {a : Addr} {f : Cell → Cell} : Leaving w s (storeCell s a f) :=
  leaving_ite (leaving_ite (leaving_next .same) (leaving_refused _)) (leaving_next .same)

/-- A checked store, and the next instruction. -/
theorem leaving_storeNext {a : Addr} {f : Cell → Cell} : Leaving w s (storeNext (storeCell s a f)) :=
  leaving_andThen leaving_storeCell fun _ => leaving_next .same

/-- Indirect addressing notes bad parity at most, whether or not it ends (`quiet_resolveFrom`). -/
theorem leaves_resolve {b : BitVec 3} {m : Addr} {r : Resolved} (hq : s.Quiet) (h : resolve b m s = .next r) :
    Leaves w s (endState r) := by
  rw [resolve] at h
  split at h
  · obtain e | e := quiet_resolveFrom _ _ _ _ hq _ h
    · exact e ▸ .refl
    · exact e ▸ .same
  · cases h
    exact .refl

theorem leaving_withResolved {b : BitVec 3} {m : Addr} {rest : BitVec 3 → Addr → State → Res State}
    (h : ∀ b m s, Leaving w s (rest b m s)) : Leaving w s (withResolved s b m rest) := by
  intro hq t ht
  obtain ⟨b', m', s', hr, ht⟩ | ⟨s', hr, rfl⟩ := withResolved_eq_next s b m rest t ht
  · exact leaving_from (leaves_resolve hq hr) (h b' m' s') hq t ht
  · exact (leaves_resolve hq hr).trans .same

theorem leaving_withEffective {b : BitVec 3} {m : Addr} {rest : Addr → State → Res State}
    (h : ∀ e s, Leaving w s (rest e s)) : Leaving w s (withEffective s b m rest) :=
  leaving_withResolved fun _ _ _ => h _ _

theorem leaving_withOperand {b : BitVec 3} {m : Addr} {rest : Word → State → Res State}
    (h : ∀ x s, Leaving w s (rest x s)) : Leaving w s (withOperand s b m rest) :=
  leaving_withEffective fun _ _ => leaving_withRead h

/-- A word read and, with no other agent between, written back (rule R76). -/
theorem leaving_readAndWrite {b : BitVec 3} {m : Addr} {rest : Addr → Word → State → Res State}
    (h : ∀ e x s, Leaving w s (rest e x s)) :
    Leaving w s (withEffective s b m fun e s => withRead s e fun x s => andThen (gap s) (rest e x)) :=
  leaving_withEffective fun e _ => leaving_withRead fun x _ => leaving_andThen leaving_gap (h e x)

/-! ## Jumps and interrupt entries -/

theorem leaving_loadU : Leaving w s (loadU s) :=
  leaving_ite (leaving_ite (leaving_next .same) (leaving_next .same)) (leaving_refused _)

theorem leaving_enterAt {m : Addr} {half : Half} : Leaving w s (enterAt s m half) := by
  cases half
  · exact leaving_next .same
  · exact leaving_from .same leaving_loadU

/-- A return from an interrupt touches the flip-flops of its category before its instruction, not in it (rule R446,
rule R452). -/
theorem leaving_takeJump {m : Addr} : Leaving w s (takeJump s m) := by
  rw [takeJump]
  split
  · exact leaving_enterAt
  · exact leaving_from .same leaving_enterAt

theorem leaving_jump {m : Addr} : Leaving w s (jump s m) := leaving_ite leaving_takeJump (leaving_next .same)

theorem leaving_rejectJump {m : Addr} : Leaving w s (rejectJump s m) :=
  leaving_ite leaving_takeJump (leaving_next .same)

theorem leaving_enterThrough {m v : Addr} : Leaving w s (enterThrough s m v) :=
  leaving_ite (leaving_andThen (leaving_from .same leaving_gap) fun _ => leaving_enterAt) (leaving_refused _)

theorem leaving_returnJump {m : Addr} : Leaving w s (returnJump s m) :=
  leaving_ite leaving_enterThrough (leaving_next .same)

theorem leaving_jumpIf {c : Bool} {m : Addr} : Leaving w s (jumpIf c s m) :=
  leaving_ite leaving_jump (leaving_next .same)

theorem leaving_returnJumpIf {c : Bool} {m : Addr} : Leaving w s (returnJumpIf c s m) :=
  leaving_ite leaving_returnJump (leaving_next .same)

theorem leaving_stopIf {c ret : Bool} {m : Addr} : Leaving w s (stopIf c ret s m) :=
  leaving_ite (leaving_next .same) (leaving_ite leaving_returnJump leaving_jump)

theorem leaving_raiseCategoryIII : Leaving w s (raiseCategoryIII s) := leaving_from .same leaving_enterThrough

/-- The entry of a Category II interrupt sets its own flip-flops (rule R450). -/
theorem leaving_raiseCategoryII (hw : w.catII = true) {ff : BitVec 2} : Leaving w s (raiseCategoryII s ff) :=
  leaving_from (.trans (leaves_setCatII hw _) .same) leaving_enterThrough

/-! ## The shared frames of a family -/

theorem leaving_withShift {b : BitVec 3} {k : Addr} {rest : Nat → State → State} (h : ∀ n s, Leaves w s (rest n s)) :
    Leaving w s (withShift s b k rest) :=
  leaving_withEffective fun _ _ => leaving_next (.trans (leaves_faultIf _ _) ((h _ _).trans .same))

theorem leaving_float (hw : w.catII = true) {k : FpKind} {ff : BitVec 2} {b : BitVec 3} {m : Addr} :
    Leaving w s (float k ff b m s) :=
  leaving_ite (leaving_withOperand fun _ _ => leaving_next .same) (leaving_raiseCategoryII hw)

theorem leaving_replaceWith {b : BitVec 3} {m : Addr} {y : State → Word} : Leaving w s (replaceWith s b m y) :=
  leaving_readAndWrite fun _ _ _ =>
    leaving_andThen (leaving_from .same leaving_storeCell) fun _ => leaving_next .same

theorem leaving_searchList (hit : Word → State → Bool) (b : BitVec 3) (m : Addr) (n : Nat) (s : State) :
    Leaving w s (searchList hit b m n s) := by
  induction n generalizing s with
  | zero => exact leaving_next .same
  | succ n ih =>
    rw [searchList]
    exact leaving_from .same (leaving_withRead fun _ _ => leaving_ite (leaving_next .same)
      (leaving_ite (leaving_next .same) (leaving_andThen leaving_gap ih)))

theorem leaving_search {b : BitVec 3} {m : Addr} {hit : Word → State → Bool} : Leaving w s (search s b m hit) :=
  leaving_withResolved fun _ _ _ => leaving_ite (leaving_withRead fun _ _ => leaving_next (leaves_skipIf _))
    (leaving_searchList _ _ _ _ _)

/-! ## The channels -/

theorem leaves_connectChannel (hw : w.channels = true) (x : Nat) (c : Byte12) :
    Leaves w s (connectChannel s x c).2 := by
  simp only [connectChannel]
  split
  · exact .refl
  · split
    · exact leaves_channels hw
    · exact leaves_channels hw

theorem leaves_functionChannel (hw : w.channels = true) (x : Nat) (c : Byte12) :
    Leaves w s (functionChannel s x c).2 := by
  simp only [functionChannel]
  split
  · exact .refl
  · split
    · exact leaves_channels hw
    · exact leaves_channels hw

theorem leaving_withChannel {x : BitVec 3} {rest : Nat → Channel → Res State} (h : ∀ x c, Leaving w s (rest x c)) :
    Leaving w s (withChannel s x rest) :=
  leaving_ite (h _ _) (leaving_refused _)

theorem leaving_answered {r : Answer × State} {n : Addr} (h : Leaves w s r.2) : Leaving w s (answered r n) := by
  rw [answered]
  split
  · exact leaving_next (h.trans .same)
  · exact leaving_from h leaving_rejectJump

/-- BEGR and BEGW: the channel fetches its control word and becomes active (rule R312, rule R313). -/
theorem leaving_begin (hw : w.channels = true) {n m : Addr} {x : BitVec 3} {dir : Direction} :
    Leaving w s (withChannel s x fun x ch =>
      if ch.act then rejectJump s n else andThen (startChannel s x dir m) fun s => .next s.nextStep) :=
  leaving_withChannel fun _ _ => leaving_ite leaving_rejectJump
    (leaving_andThen (leaving_ite (leaving_next (leaves_channels hw)) (leaving_refused _)) fun _ => leaving_next .same)

end Operations

/-! ## What each instruction can touch -/

/-- What an instruction can touch (rule R265, rule R306, rule R450). -/
def touches (i : Instr) : SystemSet where
  channels := changesChannel i
  interrupts := isInf i
  catII := isInf i || isFloating i

/-- An instruction with no other agent acting inside it touches what is said of it and nothing else. -/
theorem exec_leaving (i : Instr) (s : State) : Leaving (touches i) s (exec i s) := by
  cases i with
  | iaq | cis y | cpr y =>
    rw [exec]
    exact leaving_next .same
  | ati b =>
    rw [exec]
    exact leaving_ite (leaving_next .same) (leaving_refused _)
  | ars b k | als b k | qrs b k | qls b k | lrs b k | lls b k =>
    rw [exec]
    exact leaving_withShift fun _ _ => .same
  | ena b y | enq b y | ina b y =>
    rw [exec]
    exact leaving_withEffective fun _ _ => leaving_next .same
  | lda b m | lac b m | ldq b m | lqc b m | sst b m | scl b m | scm b m | ssu b m | ldl b m | mui b m | add b m
  | sub b m | adl b m | sbl b m =>
    rw [exec]
    exact leaving_withOperand fun _ _ => leaving_next .same
  | dvi b m =>
    rw [exec]
    exact leaving_withOperand fun _ _ => leaving_next ((leaves_divideQA _).trans .same)
  | ssk b m =>
    rw [exec]
    exact leaving_withOperand fun _ _ => leaving_next (leaves_skipIf _)
  | fad b m | fsb b m | fmu b m | fdv b m =>
    rw [exec]
    exact leaving_float rfl
  | sta b m | stq b m | stl b m | sau b m | sal b m =>
    rw [exec]
    exact leaving_withEffective fun _ _ => leaving_storeNext
  | siu b m | sil b m =>
    rw [exec]
    exact leaving_withResolved fun _ _ _ => leaving_storeNext
  | sca b k | scq b k | eni b y | ini b y =>
    rw [exec]
    exact leaving_withResolved fun _ _ _ => leaving_next .same
  | ssh b m =>
    rw [exec]
    exact leaving_readAndWrite fun _ _ _ => leaving_andThen leaving_storeCell fun _ => leaving_next (leaves_skipIf _)
  | rad b m | rsb b m | rao b m | rso b m =>
    rw [exec]
    exact leaving_replaceWith
  | liu b m | lil b m =>
    rw [exec]
    exact leaving_withResolved fun _ _ _ => leaving_withRead fun _ _ => leaving_next .same
  | isk b y =>
    rw [exec]
    exact leaving_withResolved fun _ _ _ => leaving_ite (leaving_next .same) (leaving_next .same)
  | ijp b m =>
    rw [exec]
    exact leaving_withResolved fun _ _ _ => leaving_ite (leaving_next .same) (leaving_from .same leaving_jump)
  | eqs b m | ths b m | meq b m | mth b m =>
    rw [exec]
    exact leaving_search
  | ajp j m | qjp j m | sj1 m | sj2 m | sj3 m =>
    rw [exec]
    exact leaving_jumpIf
  | slj m =>
    rw [exec]
    exact leaving_jump
  | arj j m | qrj j m | rj1 m | rj2 m | rj3 m =>
    rw [exec]
    exact leaving_returnJumpIf
  | rtj m =>
    rw [exec]
    exact leaving_returnJump
  | sls m | ss1 m | ss2 m | ss3 m | srj m | sr1 m | sr2 m | sr3 m =>
    rw [exec]
    exact leaving_stopIf
  | ill26 r | ill27 r | ill777 r | ill747 r =>
    rw [exec]
    exact leaving_raiseCategoryIII
  | undef62 r =>
    rw [exec]
    exact leaving_refused _
  | inf y =>
    rw [exec, execInf]
    split
    · exact leaving_next ((leaves_applyInf rfl rfl _).trans .same)
    · exact leaving_refused _
  | aug y =>
    rw [exec, execAug]
    split
    · exact leaving_next .same
    · exact leaving_withEffective fun _ _ => leaving_next .same
  | sen y =>
    rw [exec, execSen]
    split
    · exact leaving_next .same
    · exact leaving_next (leaves_skipIf _)
    · exact leaving_refused _
  | eub y | elb y =>
    rw [exec]
    exact leaving_ite leaving_raiseCategoryIII (leaving_next .same)
  | conn n x c =>
    rw [exec]
    exact leaving_withChannel fun _ _ => leaving_ite leaving_rejectJump
      (leaving_ite (leaving_refused _) (leaving_answered (leaves_connectChannel rfl _ _)))
  | extf n x c =>
    rw [exec]
    exact leaving_withChannel fun _ _ => leaving_ite leaving_rejectJump
      (leaving_answered (leaves_functionChannel rfl _ _))
  | begr n x m | begw n x m =>
    rw [exec]
    exact leaving_begin rfl
  | copy n x m =>
    rw [exec]
    exact leaving_withChannel fun _ _ => leaving_next .same
  | clch n x m | ccwd n x m =>
    rw [exec]
    exact leaving_withChannel fun _ _ => leaving_next (leaves_channels rfl)
  | ldc b v m =>
    rw [exec]
    exact leaving_ite (leaving_withOperand fun _ _ => leaving_next .same) (leaving_refused _)
  | stc b v m =>
    rw [exec]
    exact leaving_ite
      (leaving_readAndWrite fun _ _ _ => leaving_andThen leaving_storeCell fun _ => leaving_next .same)
      (leaving_refused _)

/-- Settles O14, by what each instruction can touch (`exec_leaving`). -/
theorem interruptSystemFrame : Obligations.InterruptSystemFrame := by
  intro i s t hq h
  have left := exec_leaving i s hq t h
  refine ⟨left.console, left.params, left.channels, fun hinf => ?_⟩
  refine ⟨left.im hinf, left.active hinf, left.catI hinf, left.timeLatch hinf, fun hfloat => left.catII ?_⟩
  exact Bool.or_eq_false_iff.mpr ⟨hinf, hfloat⟩

end Sys2Proof.Machine
end

section
/-! The input/output instructions (rule R306 to rule R318): each asks for its channel, an idle one answers it, and what
is not answered by a Reply takes the reject jump. -/

namespace Sys2Proof.Machine

/-! ## The channel of an instruction -/

theorem withChannel_installed {s : State} {x : BitVec 3} (hx : x.toNat < s.params.nchan)
    (rest : Nat → Channel → Res State) : withChannel s x rest = rest x.toNat (s.channel x.toNat) := if_pos hx

/-- The reject jump goes to n, or, n out of bounds, sets bit 42 and goes on (rule R251, rule R306). -/
theorem rejectJump_eq (s : State) (n : Addr) (hret : s.ret = none) : rejectJump s n = .next (s.rejectedTo n) := by
  rw [rejectJump, State.rejectedTo]
  cases ha : s.allowed n
  case true => exact jumpElse_in s n State.nextStep hret ha
  case false => exact jumpElse_out s n State.nextStep hret ha

theorem answered_reply {r : Answer × State} (n : Addr) (h : r.1 = .reply) : answered r n = .next r.2.nextStep := by
  rw [answered, h]

theorem answered_rejected {r : Answer × State} (n : Addr) (hret : r.2.ret = none) (h : r.1 ≠ .reply) :
    answered r n = .next (r.2.rejectedTo n) := by
  rw [← rejectJump_eq r.2 n hret, answered]
  split
  case h_1 hreply => exact absurd hreply h
  case h_2 => rfl

section Installed

variable {n m : Addr} {x : BitVec 3} {c : Byte12} {s : State} (hx : x.toNat < s.params.nchan)

include hx

/-! ## CONN and EXTF -/

/-- A busy channel rejects every code (rule R306). -/
theorem exec_code_busy (hret : s.ret = none) (hbusy : (s.channel x.toNat).act = true) :
    exec (.conn n x c) s = .next (s.rejectedTo n) ∧ exec (.extf n x c) s = .next (s.rejectedTo n) := by
  rw [exec, exec, execConn, execExtf, withChannel_installed hx, withChannel_installed hx, if_pos hbusy, if_pos hbusy,
    rejectJump_eq s n hret]
  exact ⟨rfl, rfl⟩

theorem exec_conn_idle (hidle : (s.channel x.toNat).act = false)
    (hone : countNumber (c.extractLsb' 9 3) (s.channel x.toNat).equips ≤ 1) :
    exec (.conn n x c) s = answered (connectChannel s x.toNat c) n := by
  rw [exec, execConn, withChannel_installed hx, if_neg (by simp [hidle]), if_neg (Nat.not_lt.mpr hone)]

theorem exec_extf_idle (hidle : (s.channel x.toNat).act = false) :
    exec (.extf n x c) s = answered (functionChannel s x.toNat c) n := by
  rw [exec, execExtf, withChannel_installed hx, if_neg (by simp [hidle])]

/-! ## BEGR and BEGW -/

theorem exec_begin_busy (hret : s.ret = none) (hbusy : (s.channel x.toNat).act = true) :
    exec (.begr n x m) s = .next (s.rejectedTo n) ∧ exec (.begw n x m) s = .next (s.rejectedTo n) := by
  rw [exec, exec, execBegr, execBegw, withChannel_installed hx, withChannel_installed hx, if_pos hbusy, if_pos hbusy,
    rejectJump_eq s n hret]
  exact ⟨rfl, rfl⟩

/-- On an idle channel a Read or Write begins (rule R312, rule R313). -/
theorem exec_begin_idle (hidle : (s.channel x.toNat).act = false) :
    exec (.begr n x m) s = andThen (startChannel s x.toNat .read m) (fun t => .next t.nextStep) ∧
    exec (.begw n x m) s = andThen (startChannel s x.toNat .write m) (fun t => .next t.nextStep) := by
  rw [exec, exec, execBegr, execBegw, withChannel_installed hx, withChannel_installed hx, if_neg (by simp [hidle]),
    if_neg (by simp [hidle])]
  exact ⟨rfl, rfl⟩

end Installed

/-! ## What a code does on an idle channel -/

section Codes

variable {s : State} {x : Nat} {c : Byte12}

/-- Until a clear no code is answered (rule R331, assumption 11). -/
theorem connectChannel_blocked (hb : (s.channel x).blocked = true) : connectChannel s x c = (.silent, s) := by
  simp [connectChannel, hb]

theorem connectChannel_codeFault (hb : (s.channel x).blocked = false) (hf : (s.channel x).codeFault = true) :
    connectChannel s x c =
      (.silent, s.setChannel x
        { s.channel x with codeFault := false, blocked := true, equips := connectParity c (s.channel x).equips }) := by
  simp [connectChannel, hb, hf]

/-- CONNECTED[x] after the answer a to the connect code c that left the equipments es (rule R310). -/
def connectedAfter (a : Answer) (c : Byte12) (es : List Equipment) (old : Option Byte12) : Option Byte12 :=
  match a with
  | .reply => some c
  | .silent => none
  | .reject => if es.any (·.connected) then old else none

theorem connectChannel_sent (hb : (s.channel x).blocked = false) (hf : (s.channel x).codeFault = false) :
    connectChannel s x c =
      ((connectAll x c (s.channel x).equips).1, s.putChannel x
        { s.channel x with
          connected := connectedAfter (connectAll x c (s.channel x).equips).1 c
            (connectAll x c (s.channel x).equips).2 (s.channel x).connected
          equips := (connectAll x c (s.channel x).equips).2 }) := by
  rw [connectChannel]
  simp only [hb, hf, Bool.false_eq_true, if_false]
  rfl

theorem functionChannel_unheard (h : (s.channel x).connected = none ∨ (s.channel x).blocked = true) :
    functionChannel s x c = (.silent, s) := by
  rcases h with h | h
  all_goals simp [functionChannel, h]

theorem functionChannel_codeFault (hc : (s.channel x).connected ≠ none) (hb : (s.channel x).blocked = false)
    (hf : (s.channel x).codeFault = true) :
    functionChannel s x c =
      (.silent, (s.setChannel x { s.channel x with codeFault := false, blocked := true }).fault (20 + x)) := by
  simp [functionChannel, hc, hb, hf]

theorem functionChannel_sent (hc : (s.channel x).connected ≠ none) (hb : (s.channel x).blocked = false)
    (hf : (s.channel x).codeFault = false) :
    functionChannel s x c =
      ((functionAll x (s.free 0) c (s.channel x).equips).1,
        (s.setEquips x (functionAll x (s.free 0) c (s.channel x).equips).2).drawn 1) := by
  simp [functionChannel, hc, hb, hf]

/-- Only a coupler of the code's own number is changed by a code with bad parity (rule R395). -/
theorem connectParity_eq_map (c : Byte12) (es : List Equipment) (f : Equipment → Equipment)
    (hother : ∀ e, (∀ d, e.device ≠ .coupler d) → f e = e)
    (hcoupler : ∀ e d, e.device = .coupler d → f e =
      if e.number = c.extractLsb' 9 3 then { e with device := .coupler { d with paritySignal := true } } else e) :
    connectParity c es = es.map f := by
  refine List.map_congr_left fun e _ => ?_
  cases hd : e.device with
  | coupler d =>
    simp only [hcoupler e d hd, eq_comm (a := c.extractLsb' 9 3)]
    rfl
  | _ =>
    rw [hother e (by simp [hd])]
    simp [deviceParity, ← hd]

theorem Answer.or_silent (a : Answer) : a.or .silent = a := by
  cases a
  all_goals rfl

/-- The answer of a single equipment is that of its channel. -/
theorem connectAll_single (x : Nat) (c : Byte12) (e : Equipment) :
    connectAll x c [e] = ((equipmentConnect x c e).1, [(equipmentConnect x c e).2]) := by
  simp only [connectAll, Answer.or_silent]

/-- An equipment of another number does not answer (rule R351). -/
theorem equipmentConnect_other {e : Equipment} (h : e.number ≠ c.extractLsb' 9 3) :
    equipmentConnect x c e = (.silent, if deviceClings e.device then e else
      { e with connected := false, gated := false, device := deviceDrop e.device }) := by
  rw [equipmentConnect, if_neg h.symm]
  split
  all_goals rfl

end Codes

/-- Settles O51: a busy channel by `exec_code_busy`; an idle one by what becomes of the code (`connectChannel_sent`,
`functionChannel_sent` and the lemmas of a code that nothing answers), and then of its answer (`answered_reply`,
`answered_rejected`). -/
theorem connectAndFunction : Obligations.ConnectAndFunction := by
  intro n x c s hx hret ch
  refine ⟨exec_code_busy hx hret, fun hidle hone => ?conn, fun hidle => ?extf, fun d e hd => ?typewriter,
    fun e hn hclear => ?other⟩
  case conn =>
    rw [exec_conn_idle hx hidle hone]
    refine ⟨fun hb => ?blocked, fun hb hf => ?parity, fun hb hf => ?sent⟩
    case blocked =>
      rw [connectChannel_blocked hb]
      exact answered_rejected n hret nofun
    case parity =>
      rw [connectChannel_codeFault hb hf, connectParity_eq_map c ch.equips _ ?leaves ?signals]
      · exact answered_rejected n hret nofun
      case leaves =>
        intro e hother
        cases hd : e.device
        case coupler d => exact absurd hd (hother d)
        all_goals rfl
      case signals =>
        intro e d hd
        simp only [hd]
    case sent =>
      rw [connectChannel_sent hb hf]
      intro r
      refine ⟨fun hr => ?reply, fun hr => ?silent,
        fun hr => ⟨connectedAfter .reject c r.2 ch.connected, ?kept, ?reject⟩⟩
      case reply =>
        rw [answered_reply n hr, hr]
        rfl
      case silent =>
        have hno : r.1 ≠ .reply := fun h => nomatch hr.symm.trans h
        refine (answered_rejected n hret hno).trans ?_
        rw [hr]
        rfl
      case kept =>
        rw [connectedAfter]
        split
        · exact .inl rfl
        · exact .inr rfl
      case reject =>
        have hno : r.1 ≠ .reply := fun h => nomatch hr.symm.trans h
        refine (answered_rejected n hret hno).trans ?_
        rw [hr]
  case extf =>
    rw [exec_extf_idle hx hidle]
    refine ⟨fun h => ?unheard, fun hc hb hf => ?parity, fun hc hb hf => ?sent⟩
    case unheard =>
      rw [functionChannel_unheard h]
      exact answered_rejected n hret nofun
    case parity =>
      rw [functionChannel_codeFault hc hb hf]
      exact answered_rejected n hret nofun
    case sent =>
      rw [functionChannel_sent hc hb hf]
      exact ⟨fun hr => answered_reply n hr, fun hr => answered_rejected n hret hr⟩
  case typewriter =>
    rw [connectAll_single]
    refine ⟨fun hn hon => ?own, fun hn herror => ?clings⟩
    case own => simp [equipmentConnect, hn, hd, deviceConnect, hon]
    case clings => simp [equipmentConnect_other hn, hd, deviceClings, herror]
  case other =>
    have hdrops : deviceClings e.device = false := by
      cases hd : e.device with
      | typewriter d => exact hclear d hd
      | _ => rfl
    rw [connectAll_single, equipmentConnect_other hn, hdrops]
    cases hd : e.device
    all_goals rfl

/-! ## The beginning of an operation -/

/-- The control word is fetched, and its parity noted twice over (rule R314, rule R318, rule R455). -/
theorem startChannel_present {s : State} {x : Nat} {dir : Direction} {m : Addr} (hp : s.present m = true) :
    startChannel s x dir m =
      .next (activate ((s.noteParity m).faultIf (badParity (s.cell m)) (20 + x)) x dir (upperAddress (s.word m))
        (lowerAddress (s.word m))) := if_pos hp

/-- A channel that stands still under a transmission parity condition performs no operation (rule R331). -/
theorem Channel.op_stalled {c : Channel} (h : c.stalled = true) : c.op = none := by simp [Channel.op, h]

/-- Settles O52: the operation begun is that of `activate`, from the state in which the control word has been read; a
stalled channel has no operation (`Channel.op_stalled`). -/
theorem beginOperation : Obligations.BeginOperation := by
  refine ⟨fun n x m s hx => ?begins, fun s x b bad hstalled => ?stalled⟩
  case begins =>
    intro ch
    refine ⟨fun hbusy hret => exec_begin_busy hx hret hbusy, fun hidle hp => ?_⟩
    obtain ⟨hread, hwrite⟩ := exec_begin_idle (n := n) (m := m) hx hidle
    rw [startChannel_present hp] at hread hwrite
    intro w t
    simp only [List.forall_mem_cons]
    exact ⟨hread, hwrite, List.forall_mem_nil _⟩
  case stalled =>
    have hop := Channel.op_stalled hstalled
    refine ⟨?cycle, ?input, ?output, ?record⟩
    case cycle => simp [channelCycle, hop]
    case input => simp [inputByte, hop]
    case output =>
      rw [acceptByte]
      simp only [hop]
      split
      · rfl
      · rfl
    case record => simp [endOfRecord, hop]

/-! ## COPY, CLCH and CCWD -/

/-- Settles O53: an installed channel is never rejected (`withChannel_installed`). -/
theorem channelInstructions : Obligations.ChannelInstructions := by
  intro n x m s hx ch control
  rw [exec, exec, exec, execCopy, execCcwd, execClch, withChannel_installed hx, withChannel_installed hx,
    withChannel_installed hx]
  exact ⟨rfl, rfl, rfl⟩

end Sys2Proof.Machine
end

section
/-! The channels as agents (rule R319 to rule R321): the bytes of a word in and out, the sum of word count and address,
and the end of an operation. -/

namespace Sys2Proof.Machine

/-! ## One update after another -/

theorem State.setChannel_setChannel (s : State) (x : Nat) (c d : Channel) :
    (s.setChannel x c).setChannel x d = s.setChannel x d := by
  simp only [State.setChannel, Channels.set_set]

theorem State.setChannel_putChannel (s : State) (x : Nat) (c d : Channel) :
    (s.setChannel x c).putChannel x d = s.putChannel x d := by
  simp only [State.setChannel, State.putChannel, Channels.set_set]

/-! ## The operation of a channel -/

theorem Channel.dir_of_op {c : Channel} {d : Direction} (h : c.op = some d) : c.dir = d := by
  rw [Channel.op] at h
  split at h
  · exact Option.some.inj h
  · cases h

theorem Channel.exhausted_eq_false_iff (c : Channel) : c.exhausted = false ↔ c.wc ≠ 0 ∨ c.fullCount = true := by
  simp [Channel.exhausted, or_iff_not_imp_left]

theorem Channel.exhausted_eq_true {c : Channel} (hwc : c.wc = 0) (hfull : c.fullCount = false) :
    c.exhausted = true := by simp [Channel.exhausted, hwc, hfull]

/-- The channel when a word has been stored, its address and count having moved on (rule R319). -/
def Channel.counted (c : Channel) : Channel := { c with ad := c.ad + 1, wc := c.wc - 1, asm := [], fullCount := false }

/-- The state in which channel x has stored an input word, unchecked (rule R319, decision D44). -/
def State.stored (s : State) (x : Nat) (w : Word) : State :=
  (s.setCell (s.channel x).ad (cellOf w)).setChannel x (s.channel x).counted

theorem storeInput_eq_next {s t : State} {x : Nat} {w : Word} :
    storeInput s x w = .next t ↔ s.present (s.channel x).ad = true ∧ s.stored x w = t := by
  rw [storeInput]
  split
  case isTrue hp => simp [hp, State.stored, Channel.counted]
  case isFalse hp => simp [hp]

theorem storeInput_present {s : State} {x : Nat} (hp : s.present (s.channel x).ad = true) (w : Word) :
    storeInput s x w = .next (s.stored x w) := storeInput_eq_next.mpr ⟨hp, rfl⟩

theorem stored_channel (s : State) (x : Nat) (w : Word) : (s.stored x w).channel x = (s.channel x).counted :=
  State.setChannel_channel_same _ x _

/-! ## Input -/

/-- The state in which channel x has gathered the bytes l of a word (rule R319). -/
def State.gathering (s : State) (x : Nat) (l : List Byte12) : State :=
  s.setChannel x { s.channel x with asm := l }

theorem gathering_channel (s : State) (x : Nat) (l : List Byte12) :
    (s.gathering x l).channel x = { s.channel x with asm := l } := State.setChannel_channel_same s x _

theorem gathering_gathering (s : State) (x : Nat) (k l : List Byte12) :
    (s.gathering x k).gathering x l = s.gathering x l := by
  rw [State.gathering, gathering_channel]
  exact State.setChannel_setChannel s x _ _

/-- The bytes gathered leave the channel with their word. -/
theorem stored_gathering (s : State) (x : Nat) (l : List Byte12) (w : Word) :
    (s.gathering x l).stored x w = s.stored x w := by
  rw [State.stored, gathering_channel]
  exact State.setChannel_setChannel (s.setCell (s.channel x).ad (cellOf w)) x _ _

/-- The channel performs a Read whose count is not used up, and its next byte arrives good. -/
structure Channel.Reading (c : Channel) : Prop where
  op : c.op = some .read
  more : c.exhausted = false
  good : c.dataFault = false

theorem Channel.Reading.gathering {s : State} {x : Nat} (h : (s.channel x).Reading) (l : List Byte12) :
    ((s.gathering x l).channel x).Reading := by
  rw [gathering_channel]
  exact ⟨h.op, h.more, h.good⟩

section Words

variable {s : State} {x : Nat} (hread : (s.channel x).Reading)

include hread

/-- A byte that does not fill the word waits (rule R319). -/
theorem inputByte_waits (hfew : (s.channel x).asm.length < 3) (b : Byte12) :
    inputByte s x b = .next (s.gathering x ((s.channel x).asm ++ [b])) := by
  have hlen : (s.channel x).asm.length + 1 < 4 := by omega
  simp [inputByte, hread.op, hread.more, hread.good, hlen, State.gathering]

/-- The fourth byte has the word stored, and the last word ends the operation (rule R319, rule R321). -/
theorem inputByte_fills (hthree : (s.channel x).asm.length = 3) (hp : s.present (s.channel x).ad = true) (b : Byte12) :
    let t := s.stored x (assemble (s.channel x).reverse ((s.channel x).asm ++ [b]))
    inputByte s x b = .next (if (s.channel x).wc = 1 then endOperation t x else t) := by
  intro t
  have hstore : storeInput (s.gathering x ((s.channel x).asm ++ [b])) x
      (assemble (s.channel x).reverse ((s.channel x).asm ++ [b])) = .next t := by
    rw [storeInput_present (by rw [gathering_channel]; exact hp), stored_gathering]
  have hlast : (t.channel x).wc = 0#15 ↔ (s.channel x).wc = 1#15 := by
    rw [stored_channel, Channel.counted]
    exact sub_eq_zero
  simp only [State.gathering, hread.good] at hstore
  simp [inputByte, hread.op, hread.more, hread.good, hthree, hstore, hlast]

/-- Four bytes of a word that is not the last: it is stored, and the Read goes on (rule R319). -/
theorem receive_word (hasm : (s.channel x).asm = []) (hlast : (s.channel x).wc ≠ 1)
    (hp : s.present (s.channel x).ad = true) (b0 b1 b2 b3 : Byte12) :
    receive x [.data b0, .data b1, .data b2, .data b3] s =
      .next (s.stored x (assemble (s.channel x).reverse [b0, b1, b2, b3])) := by
  have first : inputByte s x b0 = .next (s.gathering x [b0]) := by
    rw [inputByte_waits hread (by simp [hasm]), hasm]
    rfl
  have more (l : List Byte12) (hl : l.length < 3) (b : Byte12) :
      inputByte (s.gathering x l) x b = .next (s.gathering x (l ++ [b])) := by
    rw [inputByte_waits (hread.gathering l) (by rwa [gathering_channel]), gathering_gathering, gathering_channel]
  have fourth : inputByte (s.gathering x [b0, b1, b2]) x b3 =
      .next (s.stored x (assemble (s.channel x).reverse [b0, b1, b2, b3])) := by
    rw [inputByte_fills (hread.gathering _) (by rw [gathering_channel]; rfl) (by rw [gathering_channel]; exact hp),
      gathering_channel, if_neg hlast, stored_gathering]
    rfl
  have second := more [b0] (Nat.lt_of_sub_eq_succ rfl) b1
  have third := more [b0, b1] (Nat.lt_of_sub_eq_succ rfl) b2
  simp only [List.cons_append, List.nil_append] at second third
  simp only [receive, first, second, third, fourth, andThen_next]

end Words

/-! ## Output -/

/-- The next output word is read, counted, and its bytes wait to be sent (rule R314, rule R320). -/
theorem channelCycle_fetches {s : State} {x : Nat} (hop : (s.channel x).op = some .write)
    (hmore : (s.channel x).exhausted = false) (hout : (s.channel x).out = [])
    (hp : s.present (s.channel x).ad = true) :
    channelCycle s x =
      .next (((s.noteParity (s.channel x).ad).faultIf (badParity (s.cell (s.channel x).ad)) (20 + x)).setChannel x
        { s.channel x with
          out := disassemble (s.word (s.channel x).ad)
          ad := (s.channel x).ad + 1
          wc := (s.channel x).wc - 1
          fullCount := false }) := by
  simp [channelCycle, withChannelRead, hop, hmore, hout, hp, Channel.dir_of_op hop]

/-! ## Word count and address -/

theorem Channel.counted_sum (c : Channel) : c.counted.wc + c.counted.ad = c.wc + c.ad := by
  simp only [Channel.counted]
  ring

/-- On every channel the sum of word count and address is as it was. -/
def SameSums (s t : State) : Prop := 
  ∀ y < 4, (t.channel y).wc + (t.channel y).ad = (s.channel y).wc + (s.channel y).ad

theorem SameSums.refl (s : State) : SameSums s s := fun _ _ => rfl

theorem SameSums.trans {s t r : State} (h : SameSums s t) (k : SameSums t r) : SameSums s r :=
  fun y hy => (k y hy).trans (h y hy)

theorem sameSums_faultIf {s t : State} (h : SameSums s t) (c : Bool) (n : Nat) : SameSums s (t.faultIf c n) := h

section Sums

variable {s t : State} {x : Nat} {c : Channel} (hx : x < 4)

include hx

theorem sameSums_setChannel (hc : c.wc + c.ad = (s.channel x).wc + (s.channel x).ad) : SameSums s (s.setChannel x c) := by
  intro y hy
  by_cases hyx : y = x
  · rw [hyx, State.setChannel_channel_same, hc]
  · exact congrArg (fun c : Channel => c.wc + c.ad) (Channels.get_set_other s.channels x y c hx hy hyx)

theorem sameSums_putChannel (hc : c.wc + c.ad = (s.channel x).wc + (s.channel x).ad) : SameSums s (s.putChannel x c) := by
  intro y hy
  by_cases hyx : y = x
  · rw [hyx, State.putChannel_channel_same s x c hx, hc]
  · rw [State.putChannel_channel_other s x y c hx hy hyx]
    rfl

theorem sameSums_endOperation : SameSums s (endOperation s x) := sameSums_putChannel hx rfl

theorem sameSums_storeInput {w : Word} (h : storeInput s x w = .next t) : SameSums s t := by
  obtain ⟨-, rfl⟩ := storeInput_eq_next.mp h
  exact sameSums_setChannel (s := s.setCell (s.channel x).ad (cellOf w)) hx ((s.channel x).counted_sum)

theorem sameSums_endIf (p : Prop) [Decidable p] : SameSums s (if p then endOperation s x else s) := by
  split
  · exact sameSums_endOperation hx
  · exact .refl s

theorem sameSums_channelCycle (h : channelCycle s x = .next t) : SameSums s t := by
  simp only [channelCycle, withChannelRead] at h
  split at h
  · split at h
    · cases h
      exact sameSums_endOperation hx
    · split at h
      · split at h
        · cases h
          exact sameSums_setChannel (s := (s.noteParity _).faultIf _ _) hx ((s.channel x).counted_sum)
        · cases h
      · cases h
        exact .refl s
  · cases h
    exact .refl s

theorem sameSums_inputByte {b : Byte12} (h : inputByte s x b = .next t) : SameSums s t := by
  simp only [inputByte] at h
  split at h
  · split at h
    · cases h
      exact sameSums_endOperation hx
    · split at h
      · cases h
        refine sameSums_faultIf (sameSums_setChannel hx ?_) _ _
        rfl
      · obtain ⟨r, hr, h⟩ := (andThen_eq_next _ _ t).mp h
        cases h
        refine .trans ?_ ((sameSums_storeInput hx hr).trans (sameSums_endIf hx _))
        refine sameSums_faultIf (sameSums_setChannel hx ?_) _ _
        rfl
  · cases h
    exact .refl s

theorem sameSums_acceptByte {bad : Bool} (h : acceptByte s x bad = .next t) : SameSums s t := by
  simp only [acceptByte] at h
  split at h
  · cases h
    exact .refl s
  · split at h
    · cases h
      refine .trans ?_ (sameSums_endIf hx _)
      refine sameSums_faultIf (sameSums_putChannel hx ?_) _ _
      rfl
    · cases h
      exact .refl s

theorem sameSums_endOfRecord (h : endOfRecord s x = .next t) : SameSums s t := by
  simp only [endOfRecord] at h
  split at h
  · split at h
    · cases h
      exact sameSums_endOperation hx
    · split at h
      · cases h
        exact sameSums_endOperation (s := s.drawn 2) hx
      · obtain ⟨r, hr, h⟩ := (andThen_eq_next _ _ t).mp h
        cases h
        exact .trans (s := s) (t := s.drawn 2) (.refl s) ((sameSums_storeInput hx hr).trans (sameSums_endOperation hx))
  · cases h
    exact .refl s

end Sums

/-- Settles O55: four bytes by `receive_word`, a word to be sent by `channelCycle_fetches`; the sum is kept by each thing
a channel does, because a word counted is a word passed (`Channel.counted_sum`). -/
theorem channelMovesWords : Obligations.ChannelMovesWords := by
  refine ⟨fun s x hx => ?moves, fun s t x y b bad hx hy h => ?sums⟩
  case moves =>
    intro ch hp hcount
    have hmore : ch.exhausted = false := ch.exhausted_eq_false_iff.mpr hcount
    refine ⟨fun b0 b1 b2 b3 hop hasm hgood hlast => ?input, fun hop hout => channelCycle_fetches hop hmore hout hp⟩
    case input => exact receive_word ⟨hop, hmore, hgood⟩ hasm hlast hp b0 b1 b2 b3
  case sums =>
    refine (?_ : SameSums s t) y hy
    obtain h | h | h | h := h
    · exact sameSums_channelCycle hx h
    · exact sameSums_inputByte hx h
    · exact sameSums_acceptByte hx h
    · exact sameSums_endOfRecord hx h

/-! ## The sides of a machine, followed twice -/

theorem tapeLost_self (d : TapeControl) : tapeLost d d = false := by
  rw [tapeLost]
  split
  case h_1 u v hu hv =>
    obtain rfl : u = v := Option.some.inj (hu.symm.trans hv)
    exact Bool.and_not_self u.ready
  case h_2 => rfl

theorem Selections.troubledIf_false (s : Selections) : s.troubledIf false = s := by
  rw [Selections.troubledIf, Bool.or_false]

/-- A tape control that has followed the units has nothing more to follow (rule R378). -/
theorem tapeFollow_again (y : Nat) (units : List TapeUnit) (d : TapeControl) :
    tapeFollow y units (tapeFollow y units d) = tapeFollow y units d := by
  simp only [tapeFollow, Option.filter_filter, Bool.and_self, tapeLost_self, Selections.troubledIf_false]

/-- What a side of a machine takes over from a device that has then ended its operation is what it takes over from that
device in the end. -/
theorem deviceFollow_deviceEnd (y x : Nat) (m : Direction) (src d : Device) :
    deviceFollow y (deviceEnd x m src) (deviceFollow y src d) = deviceFollow y (deviceEnd x m src) d := by
  cases src with
  | tape a =>
    cases d with
    | tape b => exact congrArg Device.tape (tapeFollow_again y a.units b)
    | _ => rfl
  | _ => cases d <;> rfl

theorem deviceFollow_again (y : Nat) (src d : Device) :
    deviceFollow y src (deviceFollow y src d) = deviceFollow y src d := by
  cases src with
  | tape a =>
    cases d with
    | tape b => exact congrArg Device.tape (tapeFollow_again y a.units b)
    | _ => rfl
  | _ => cases d <;> rfl

/-- A change to the devices of the connected equipments leaves the sides of machines where they are. -/
theorem find?_mapConnected (f : Device → Device) (p : Option Nat → Bool) (es : List Equipment) :
    (mapConnected f es).find? (fun e => p e.machine) =
      (es.find? fun e => p e.machine).map fun e => if e.connected then { e with device := f e.device } else e := by
  rw [mapConnected, List.find?_map]
  congr 2
  funext e
  simp only [Function.comp_apply]
  split
  · rfl
  · rfl

section Sides

variable {y k : Nat} {e f : Equipment} {es : List Equipment} (he : e.machine = some k)

include he

theorem equipmentFollow_absent (hf : (es.find? fun f => f.machine.isSome && f.machine == some k) = none) :
    equipmentFollow y es e = e := by simp [equipmentFollow, he, hf]

theorem equipmentFollow_side (hf : (es.find? fun f => f.machine.isSome && f.machine == some k) = some f) :
    equipmentFollow y es e = { e with device := deviceFollow y f.device e.device } := by
  simp [equipmentFollow, he, hf]

end Sides

/-- A side of a machine that follows the equipments of a channel, and follows them again when an operation of theirs
has ended, ends where it would had it followed them then only. -/
theorem equipmentFollow_mapConnected (y x : Nat) (m : Direction) (es : List Equipment) (e : Equipment) :
    equipmentFollow y (mapConnected (deviceEnd x m) es) (equipmentFollow y es e) =
      equipmentFollow y (mapConnected (deviceEnd x m) es) e := by
  cases he : e.machine with
  | none => rw [equipmentFollow_own y es e he]
  | some k =>
    have hafter := find?_mapConnected (deviceEnd x m) (fun j => j.isSome && j == some k) es
    cases hf : es.find? fun f => f.machine.isSome && f.machine == some k with
    | none => rw [equipmentFollow_absent he hf]
    | some f =>
      rw [hf, Option.map_some] at hafter
      rw [equipmentFollow_side he hf, equipmentFollow_side he hafter,
        equipmentFollow_side (e := { e with device := deviceFollow y f.device e.device }) he hafter]
      refine congrArg (fun d => { e with device := d }) ?_
      split
      · exact deviceFollow_deviceEnd y x m f.device e.device
      · exact deviceFollow_again y f.device e.device

/-- Channels are equal when each of the four is. -/
theorem Channels.eq_of_get {cs ds : Channels} (h : ∀ y < 4, cs.get y = ds.get y) : cs = ds := by
  have h0 : cs.c0 = ds.c0 := h 0 (by decide)
  have h1 : cs.c1 = ds.c1 := h 1 (by decide)
  have h2 : cs.c2 = ds.c2 := h 2 (by decide)
  have h3 : cs.c3 = ds.c3 := h 3 (by decide)
  cases cs
  cases ds
  simp_all only

/-- The equipments of a channel changed, and then changed by the end of its operation: the sides of their machines on
other channels are where the second change alone would leave them. -/
theorem State.putChannel_putChannel_end (s : State) {x : Nat} (hx : x < 4) (c d : Channel) (m : Direction)
    (hd : d.equips = mapConnected (deviceEnd x m) c.equips) : (s.putChannel x c).putChannel x d = s.putChannel x d := by
  have hchannel (y : Nat) (hy : y < 4) :
      ((s.putChannel x c).putChannel x d).channel y = (s.putChannel x d).channel y := by
    by_cases hyx : y = x
    · rw [hyx, State.putChannel_channel_same _ x d hx, State.putChannel_channel_same _ x d hx]
    · rw [State.putChannel_channel_other _ x y d hx hy hyx, State.putChannel_channel_other _ x y d hx hy hyx,
        State.putChannel_channel_other _ x y c hx hy hyx, hd]
      simp only [Channel.follow, List.map_map]
      congr 1
      exact List.map_congr_left fun e _ => equipmentFollow_mapConnected y x m c.equips e
  exact congrArg (fun cs => { s with channels := cs }) (Channels.eq_of_get hchannel)

/-! ## The end of an operation -/

/-- The state in which channel x, with c in its registers, has ended its operation (rule R321, rule R433, rule R488). -/
def State.ended (t : State) (x : Nat) (c : Channel) : State :=
  { t.putChannel x
      { c with act := false, asm := [], out := [], fullCount := false,
               equips := mapConnected (deviceEnd x c.dir) c.equips } with
    irLatch := if t.im.getLsbD (10 + x) = true ∨ t.params.latchUnmasked = true then setBit t.irLatch (10 + x)
      else t.irLatch
    run := if (∃ y : Fin 4, y.val = x ∧ t.run = .loading y) then .loaded else t.run }

/-- An auto-load on channel x, and no other, has then its record in (rule R488). -/
theorem endOperation_run (t : State) (x : Nat) :
    (endOperation t x).run = if (∃ y : Fin 4, y.val = x ∧ t.run = .loading y) then .loaded else t.run := by
  simp only [endOperation]
  cases t.run with
  | loading y => simp
  | _ => simp

/-- The channel-inactive bit is set if it is selected, or if it latches unmasked (rule R433, decision D18). -/
theorem endOperation_irLatch (t : State) (x : Nat) :
    (endOperation t x).irLatch =
      if t.im.getLsbD (10 + x) = true ∨ t.params.latchUnmasked = true then setBit t.irLatch (10 + x)
      else t.irLatch := by
  simp only [endOperation, channelBecameInactive, State.faultIf_irLatch, Bool.or_eq_true]
  rfl

theorem endOperation_eq (t : State) (x : Nat) : endOperation t x = t.ended x (t.channel x) := by
  rw [State.ended, ← endOperation_run, ← endOperation_irLatch]
  rfl

theorem endOperation_setChannel (t : State) (x : Nat) (c : Channel) :
    endOperation (t.setChannel x c) x = t.ended x c := by
  rw [endOperation_eq, State.setChannel_channel_same, State.ended, State.setChannel_putChannel]
  rfl

theorem endOperation_putChannel (t : State) {x : Nat} (hx : x < 4) (c : Channel) :
    endOperation (t.putChannel x c) x = t.ended x c := by
  rw [endOperation_eq, State.putChannel_channel_same t x c hx, State.ended,
    State.putChannel_putChannel_end t hx c _ c.dir rfl]
  rfl

/-- The operation ends with the last word stored. -/
theorem endOperation_stored (s : State) (x : Nat) (w : Word) :
    endOperation (s.stored x w) x = (s.setCell (s.channel x).ad (cellOf w)).ended x (s.channel x).counted :=
  endOperation_setChannel _ x _

/-- The last byte of the last word sent ends the operation (rule R320, rule R321). -/
theorem acceptByte_last {s : State} {x : Nat} (hx : x < 4) {b : Byte12} (hop : (s.channel x).op = some .write)
    (hout : (s.channel x).out = [b]) (hdone : (s.channel x).exhausted = true)
    (htaken : (s.channel x).taken x = true) :
    acceptByte s x false =
      .next (s.ended x
        { s.channel x with equips := mapConnected (deviceTake x true false b) (s.channel x).equips }) := by
  have hend := endOperation_putChannel s hx
    { s.channel x with out := [], equips := mapConnected (deviceTake x true false b) (s.channel x).equips }
  simp only [acceptByte, hout, hop, htaken, hdone, and_self, if_true, State.faultIf_false, List.isEmpty_nil,
    Bool.and_self, hend]
  rfl

/-- A word is made of four bytes. -/
theorem assemble_take (r : Bool) (l : List Byte12) : assemble r (l.take 4) = assemble r l := by
  have htake (i : Nat) (hi : i < 4) : (l.take 4).getD i 0 = l.getD i 0 := by simp [List.getD, hi]
  simp only [assemble, htake 0 (by decide), htake 1 (by decide), htake 2 (by decide), htake 3 (by decide)]

theorem endOfRecord_empty {s : State} {x : Nat} (hop : (s.channel x).op = some .read) (hasm : (s.channel x).asm = []) :
    endOfRecord s x = .next (endOperation s x) := by simp [endOfRecord, hop, hasm]

/-- A word partly assembled at End of Record is dropped, or stored with its missing bytes free (rule R321). -/
theorem endOfRecord_partial {s : State} {x : Nat} (hop : (s.channel x).op = some .read)
    (hasm : (s.channel x).asm ≠ []) (hp : s.present (s.channel x).ad = true) :
    endOfRecord s x = .next (endOperation (s.drawn 2) x) ∨
    endOfRecord s x = .next (endOperation ((s.drawn 2).stored x
      (assemble (s.channel x).reverse ((s.channel x).asm ++ disassemble (s.free 1)))) x) := by
  simp only [endOfRecord, hop, if_true, List.isEmpty_iff, hasm, if_false]
  split
  · exact .inl rfl
  · rw [storeInput_present (s := s.drawn 2) hp]
    exact .inr rfl

/-- A count that is used up ends the operation at the channel's next step (rule R317, rule R321). -/
theorem channelCycle_exhausted {s : State} {x : Nat} (hop : (s.channel x).op.isSome = true)
    (hout : (s.channel x).out = []) (hdone : (s.channel x).exhausted = true) :
    channelCycle s x = .next (endOperation s x) := by simp [channelCycle, hop, hout, hdone]

/-- Settles O56: each case ends the operation (`endOperation_eq`), from the state in which the word is stored
(`endOperation_stored`), or the byte has been taken, after which the sides of shared machines follow once and for all
(`State.putChannel_putChannel_end`). -/
theorem endOfOperation : Obligations.EndOfOperation := by
  intro s x hx ch ended word wrote
  refine ⟨fun l b hop hl hthree hone hgood hp => ?stored, fun b hop hout hwc hfull htaken => ?sent,
    fun hop hasm => ?record, fun hop hasm hfew hp => ?part, fun hop hout hwc hfull => ?count⟩
  case stored =>
    subst hl
    have hmore : ch.exhausted = false := ch.exhausted_eq_false_iff.mpr (.inl (by rw [hone]; decide))
    rw [inputByte_fills ⟨hop, hmore, hgood⟩ hthree hp, if_pos hone, endOperation_stored]
    rfl
  case sent => exact acceptByte_last hx hop hout (Channel.exhausted_eq_true hwc hfull) htaken
  case record =>
    rw [endOfRecord_empty hop hasm, endOperation_eq]
    rfl
  case part =>
    refine (endOfRecord_partial hop hasm hp).imp (fun h => ?dropped) fun h =>
      ⟨(ch.asm ++ disassemble (s.free 1)).take 4, ?four, ?received, ?kept⟩
    case dropped =>
      rw [h, endOperation_eq]
      rfl
    case kept =>
      rw [h, endOperation_stored, ← assemble_take]
      rfl
    case four =>
      rw [List.length_take, List.length_append]
      exact Nat.min_eq_left (Nat.le_add_left 4 _)
    case received => exact List.prefix_take_iff.mpr ⟨List.prefix_append _ _, hfew.le⟩
  case count =>
    rw [channelCycle_exhausted hop hout (Channel.exhausted_eq_true hwc hfull), endOperation_eq]
    rfl

end Sys2Proof.Machine
end

section
/-! The protection of storage (rule R458, rule R459): whatever a step of the computer executes, it stores only where a
write from the state it began in is no violation, and in the entry words of interrupts. A part of a step is asked this
before it is known from which state it begins (`Guarded`): nothing an instruction does before its store changes what is
allowed. -/

namespace Sys2Proof.Machine

/-! ## What a write needs -/

/-- What is allowed depends on nothing that another agent, or a reference to storage, changes. -/
theorem AgentFrame.allowed {s t : State} (h : AgentFrame s t) (a : Addr) : t.allowed a = s.allowed a := by
  simp only [State.allowed, State.checksApply, State.checking, State.inBounds, h.active, h.im, h.params, h.catI, h.bl,
    h.bu]

theorem allowed_iff (s : State) (a : Addr) : s.allowed a = true ↔ (s.checksApply = true → s.inBounds a = true) := by
  rw [State.allowed]
  cases s.checksApply <;> simp

/-- A return that begins at word 00007 ends the suspension of the checks, and so allows nothing new (rule R462). -/
theorem returnTrigger_allowed {s : State} {a : Addr} (h : (returnTrigger s).allowed a = true) : s.allowed a = true := by
  rw [allowed_iff] at h ⊢
  intro hc
  obtain ⟨-, -, e⟩ | ⟨-, e⟩ | e := returnTrigger_cases s
  case inl =>
    have hchecking : s.checking = true := (Bool.and_eq_true_iff.mp hc).1
    rw [e] at h
    exact h (Bool.and_eq_true_iff.mpr ⟨hchecking, Bool.or_true _⟩)
  case inr.inl =>
    rw [e] at h
    exact h hc
  case inr.inr =>
    rw [e] at h
    exact h hc

/-- The address lies outside the bounds registers' limits, as the eight upper bits of it say (rule R458). -/
theorem inBounds_eq_false {s : State} {a : Addr}
    (h : a.toNat < 128 * s.bl.toNat ∨ (s.bu ≠ 0 ∧ 128 * s.bu.toNat ≤ a.toNat)) : s.inBounds a = false := by
  have htop : (a.extractLsb' 7 8).toNat = a.toNat / 128 := by
    have hlt : a.toNat / 128 < 256 := by have := a.isLt; omega
    rw [BitVec.extractLsb'_toNat, Nat.shiftRight_eq_div_pow, Nat.mod_eq_of_lt hlt]
  simp only [State.inBounds, Bool.and_eq_false_iff, Bool.or_eq_false_iff, decide_eq_false_iff_not, BitVec.le_def,
    BitVec.lt_def, htop]
  obtain hlow | ⟨hbu, hhigh⟩ := h
  · left
    omega
  · right
    exact ⟨hbu, by omega⟩

theorem allowed_eq_false {s : State} {a : Addr} (hc : s.checksApply = true)
    (h : a.toNat < 128 * s.bl.toNat ∨ (s.bu ≠ 0 ∧ 128 * s.bu.toNat ≤ a.toNat)) : s.allowed a = false := by
  rw [State.allowed, hc, inBounds_eq_false h]
  rfl

/-! ## What a part of a step stores -/

/-- If every word that s allows to be written lies in w, this part of a step begun in s stores in no other. -/
def Guarded (w : Addr → Prop) (s : State) (r : Res State) : Prop := (∀ a, s.allowed a = true → w a) → Keeping w s r

section Operations

variable {w : Addr → Prop} {s t : State} {m : Addr}

/-- What is done first must not allow more than before. -/
theorem guarded_from {r : Res State} (h : Keeps w s t) (hle : ∀ a, t.allowed a = true → s.allowed a = true)
    (k : Guarded w t r) : Guarded w s r :=
  fun hw => keeping_from h (k fun a ha => hw a (hle a ha))

theorem guarded_from_agent {r : Res State} (h : Keeps w s t) (hf : AgentFrame s t) (k : Guarded w t r) :
    Guarded w s r := guarded_from h (fun a ha => (hf.allowed a).symm.trans ha) k

theorem guarded_andThen {r : Res State} {f : State → Res State} (h : Guarded w s r) (k : ∀ x, Keeping w x (f x)) :
    Guarded w s (andThen r f) := fun hw => keeping_andThen (h hw) k

theorem guarded_ite {c : Prop} [Decidable c] {r r' : Res State} (h : Guarded w s r) (k : Guarded w s r') :
    Guarded w s (if c then r else r') := fun hw => keeping_ite (fun _ => h hw) fun _ => k hw

theorem guarded_of_keeping {r : Res State} (h : Keeping w s r) : Guarded w s r := fun _ => h

/-- Out of bounds a checked write stores nothing (rule R459). -/
theorem guarded_storeCell {f : Cell → Cell} : Guarded w s (storeCell s m f) := fun hw =>
  keeping_ite
    (fun ha => keeping_ite (fun _ => keeping_next (keeps_setCell (hw m ha) _)) fun _ => keeping_refused _)
    fun _ => keeping_next keeps_violation

theorem guarded_storeNext {f : Cell → Cell} : Guarded w s (storeNext (storeCell s m f)) :=
  guarded_andThen guarded_storeCell fun _ => keeping_advance .refl

theorem guarded_gap {f : State → Res State} (h : ∀ x, Guarded w x (f x)) : Guarded w s (andThen (gap s) f) := by
  intro hw t ht
  obtain ⟨x, hx, ht⟩ := (andThen_eq_next _ _ t).mp ht
  exact guarded_from_agent (keeping_gap x hx) (frame_gap s x hx) (h x) hw t ht

theorem guarded_withRead {rest : Word → State → Res State} (h : ∀ v x, Guarded w x (rest v x)) :
    Guarded w s (withRead s m rest) :=
  guarded_ite (guarded_from_agent (keeps_noteParity m) (frame_noteParity s m) (h _ _))
    (guarded_of_keeping (keeping_refused _))

theorem guarded_withResolved {b : BitVec 3} {rest : BitVec 3 → Addr → State → Res State}
    (h : ∀ b' m' x, Guarded w x (rest b' m' x)) : Guarded w s (withResolved s b m rest) := fun hw =>
  keeping_withResolved fun b' m' x hr => h b' m' x fun a ha => hw a ((hr.frame.allowed a).symm.trans ha)

theorem guarded_withEffective {b : BitVec 3} {rest : Addr → State → Res State}
    (h : ∀ e x, Guarded w x (rest e x)) : Guarded w s (withEffective s b m rest) :=
  guarded_withResolved fun _ _ _ => h _ _

theorem guarded_replaceWith {b : BitVec 3} {y : State → Word} : Guarded w s (replaceWith s b m y) :=
  guarded_withEffective fun _ _ => guarded_withRead fun v _ => guarded_gap fun x =>
    have hsum : Keeps w x (x.summed v (y x)) := (keeps_faultIf (n := 3) _ (by decide)).trans .same
    guarded_andThen (guarded_from hsum (fun _ ha => ha) guarded_storeCell) fun _ => keeping_advance .refl

/-- Out of bounds a return jump neither stores nor jumps (rule R251). -/
theorem guarded_returnJump : Guarded w s (returnJump s m) := fun hw =>
  keeping_ite (fun ha => keeping_enterThrough (hw m ha)) fun _ => keeping_advance keeps_violation

theorem guarded_returnJumpIf {c : Bool} : Guarded w s (returnJumpIf c s m) :=
  guarded_ite guarded_returnJump (guarded_of_keeping (keeping_advance .refl))

theorem guarded_stopIf {c : Bool} : Guarded w s (stopIf c true s m) :=
  guarded_ite (guarded_of_keeping (keeping_next .same)) guarded_returnJump

end Operations

/-! ## Each instruction -/

theorem Keeping.mono {w w' : Addr → Prop} {s : State} {r : Res State} (h : Keeping w s r) (hw : ∀ a, w a → w' a) :
    Keeping w' s r := fun t ht =>
  have k := h t ht
  ⟨k.sound, k.quiet, fun hq a ha => k.cells hq a fun hwa => ha (hw a hwa)⟩

/-- Whatever is executed, the checked stores and return jumps are made where they are allowed, and the rest stores in
the entry words of interrupts or nowhere (rule R459). -/
theorem exec_guarded {w : Addr → Prop} (hentry : ∀ a ∈ entryWords, w a) (i : Instr) (s : State) :
    Guarded w s (exec i s) := by
  cases i with
  | sta b m | stq b m | stl b m | sau b m | sal b m =>
    rw [exec]
    exact guarded_withEffective fun _ _ => guarded_storeNext
  | siu b m | sil b m =>
    rw [exec]
    exact guarded_withResolved fun _ _ _ => guarded_storeNext
  | rad b m | rsb b m | rao b m | rso b m =>
    rw [exec]
    exact guarded_replaceWith
  | ssh b m =>
    rw [exec]
    exact guarded_withEffective fun _ _ => guarded_withRead fun _ _ => guarded_gap fun _ =>
      guarded_andThen guarded_storeCell fun _ => keeping_next (keeps_skipIf _)
  | stc b v m =>
    rw [exec]
    exact guarded_ite
      (guarded_withEffective fun _ _ => guarded_withRead fun _ _ => guarded_gap fun _ =>
        guarded_andThen guarded_storeCell fun _ => keeping_next .same)
      (guarded_of_keeping (keeping_refused _))
  | arj j m | qrj j m | rj1 m | rj2 m | rj3 m =>
    rw [exec]
    exact guarded_returnJumpIf
  | rtj m =>
    rw [exec]
    exact guarded_returnJump
  | srj m | sr1 m | sr2 m | sr3 m =>
    rw [exec]
    exact guarded_stopIf
  | fad | fsb | fmu | fdv | eub | elb | ill26 | ill27 | ill777 | ill747 =>
    refine guarded_of_keeping ((exec_keeping _ s).mono fun a ha => hentry a ?_)
    rw [show a = _ from ha]
    decide
  | _ => exact guarded_of_keeping ((exec_keeping _ s).mono fun _ ha => ha.elim)

/-! ## The step -/

section Step

variable {w : Addr → Prop} (hentry : ∀ a ∈ entryWords, w a) (s : State)

include hentry

/-- The end of an instruction stores in word 00007 or nowhere (rule R442). -/
theorem keeping_finish_entry (half : Half) : Keeping w s (finish half s) := by
  have hseven : w 0o7 := hentry _ (by decide)
  rw [finish_eq]
  refine keeping_ite (fun _ => keeping_refused _) fun _ => keeping_ite (fun _ => ?_) fun _ => keeping_next .same
  exact keeping_from .same (keeping_andThen keeping_gap fun _ =>
    keeping_ite (fun _ => keeping_from .same (keeping_enterThrough hseven)) fun _ => keeping_next .refl)

theorem guarded_runDecoded (half : Half) (d : Decoded) : Guarded w s (runDecoded half d s) := by
  cases d with
  | error e => exact guarded_of_keeping (keeping_refused _)
  | ok i => exact guarded_andThen (exec_guarded hentry i s) fun x => keeping_finish_entry hentry x half

theorem guarded_runInstruction : Guarded w s (runInstruction s) := by
  rw [runInstruction]
  split
  case h_1 =>
    intro hw t ht
    obtain ⟨f, hf, ht⟩ := (andThen_eq_next _ _ t).mp ht
    have hle (a : Addr) (ha : f.allowed a = true) : s.allowed a = true := by
      obtain ⟨-, _, -, ⟨-, rfl⟩ | ⟨-, rfl⟩⟩ := fetch_eq_next s f hf <;> exact ha
    refine guarded_from (keeping_fetch f hf) hle ?_ hw t ht
    refine guarded_ite (guarded_gap fun x => ?_) (guarded_of_keeping (keeping_next .refl))
    exact guarded_from keeps_returnTrigger (fun _ => returnTrigger_allowed) (guarded_runDecoded hentry _ _ _)
  case h_2 => exact guarded_runDecoded hentry s _ _

/-- But for the start after an auto-load the computer's own action is an instruction or nothing. -/
theorem guarded_act (hrun : s.run ≠ .loaded) : Guarded w s (act s) := by
  rw [act]
  split
  case h_1 => exact guarded_runInstruction hentry s
  case h_2 h => exact absurd h hrun
  all_goals exact guarded_of_keeping (keeping_next .refl)

end Step

/-- Settles O59: a step stores where it is allowed to (`guarded_act`) and in the entry words, and out of bounds it is
not allowed to (`allowed_eq_false`). -/
theorem boundsProtectStorage : Obligations.BoundsProtectStorage := by
  rintro s t a ⟨hin, hq⟩ hrun hc hout hentry h
  rw [step_computer s hin] at h
  have hguard : Guarded (fun x => s.allowed x = true ∨ x ∈ entryWords) s (act s) :=
    guarded_act (fun _ => .inr) s hrun
  refine (hguard (fun _ => .inl) t h).cells hq a ?_
  rintro (hallowed | hword)
  · rw [allowed_eq_false hc hout] at hallowed
    cases hallowed
  · exact hentry hword

end Sys2Proof.Machine
end

section
/-! The interrupt system from outside and inside: what sets the bits of the Interrupt register that no instruction sets
(rule R435 to rule R437), the entries of the three categories (rule R442, rule R450, rule R453), and the reading of a
program step that is bad or out of bounds (rule R456, rule R461). -/

namespace Sys2Proof.Machine

/-! ## The conditions that come from outside -/

/-- The interrupt lines of a channel are down exactly when no equipment of it sends its signal (rule R304). -/
theorem interruptLines_ne_zero_iff (x : Nat) (es : List Equipment) :
    interruptLines x es ≠ 0 ↔ ∃ e ∈ es, deviceInterrupt x e.device = true := by
  have hline (n : BitVec 3) : (1#8 <<< n.toNat : BitVec 8) ≠ 0 := by
    revert n
    decide
  have hor (v w : BitVec 8) : v ||| w ≠ 0 ↔ v ≠ 0 ∨ w ≠ 0 := by
    rw [Ne, show v ||| w = 0 ↔ v = 0 ∧ w = 0 from BitVec.or_eq_zero_iff, not_and_or]
  induction es with
  | nil => simp [interruptLines]
  | cons e es ih =>
    rw [interruptLines, hor, List.exists_mem_cons_iff]
    refine or_congr ?_ ih
    split
    · next h => exact iff_of_true (hline _) h
    · next h => exact iff_of_false (fun hne => hne rfl) h

theorem externalLine_getLsbD_same (s : State) {x : Nat} (hx : x < 4) :
    (s.externalLine x).getLsbD (30 + x) = true ↔
      x < s.params.nchan ∧ ∃ e ∈ (s.channel x).equips, deviceInterrupt x e.device = true := by
  rw [← interruptLines_ne_zero_iff, State.externalLine]
  have hbit : ∀ y < 4, (1#48 <<< (30 + y)).getLsbD (30 + y) = true := by decide
  split
  · next h => exact iff_of_true (hbit x hx) h
  · next h => exact iff_of_false (by simp) h

/-- An external interrupt bit is the line of its channel, and no flip-flop (rule R435, decision D19). -/
theorem ir_getLsbD_external (s : State) {x : Nat} (hx : x < 4) :
    s.ir.getLsbD (30 + x) = (s.externalLine x).getLsbD (30 + x) := by
  have hlatch : ∀ y < 4, latchedBits.getLsbD (30 + y) = false := by decide
  have hother (y : Nat) (hy : y ≠ x) : (s.externalLine y).getLsbD (30 + x) = false :=
    externalLine_getLsbD s y _ fun h => hy (Nat.add_left_cancel h).symm
  rw [State.ir, State.externalLines]
  simp only [BitVec.getLsbD_or, BitVec.getLsbD_and, hlatch x hx, Bool.and_false, Bool.false_or]
  have hcases : x = 0 ∨ x = 1 ∨ x = 2 ∨ x = 3 := by omega
  obtain rfl | rfl | rfl | rfl := hcases <;>
    simp (disch := decide) only [hother, Bool.or_false, Bool.false_or]

/-- A fault under a condition written as a choice of states. -/
theorem State.faultIf_eq_ite (s : State) (c : Bool) (n : Nat) {cond : Prop} [Decidable cond] (hc : c = true ↔ cond) :
    s.faultIf c n = if cond then { s with irLatch := setBit s.irLatch n } else s := by
  cases c
  · rw [if_neg (by simp [← hc]), State.faultIf_false]
  · rw [if_pos (hc.mp rfl)]
    rfl

/-- Settles O17: a bit by the line it is (`ir_getLsbD_external`), the switch, the tick and the two codes by what the
model does for them. -/
theorem outsideConditions : Obligations.OutsideConditions := by
  refine ⟨fun s x hx => ?lines, fun s hlive => ?switch, fun s => ⟨rfl, rfl, ?tick⟩⟩
  case lines => rw [ir_getLsbD_external s hx, externalLine_getLsbD_same s hx]
  case switch =>
    rw [deliver, agentEvent, operate, if_pos hlive, manualInterrupt, s.faultIf_eq_ite _ 43 Bool.and_eq_true_iff]
  case tick =>
    rw [deliver, agentEvent, tick]
    simp only [Bool.and_eq_true]
    rfl

/-! ## The entries of the three categories -/

/-- The place of the next instruction: the lower half of the step at P, or the upper one of P + 1 (rule R10). -/
theorem State.advance_place (s : State) :
    s.advance.p = (if s.h = .upper then s.p else s.p + 1) ∧ decide (s.advance.h = .lower) = decide (s.h = .upper) := by
  cases h : s.h <;> simp [State.advance, h]

theorem append_zero_eq_setWidth (ff : BitVec 2) : (0#13 ++ ff : Addr) = ff.setWidth 15 := by
  revert ff
  decide

/-- Category II stores the place of the next instruction in word 00030 + ff and keeps its half (rule R450). -/
theorem raiseCategoryII_done (s : State) (ff : BitVec 2) (hq : s.Quiet)
    (h : s.enterable (0o30 + ff.setWidth 15) (if s.h = .upper then s.p else s.p + 1)) :
    raiseCategoryII s ff = .next
      (({ s with aug := none, catII := { mode := true, exit := decide (s.h = .upper), addr := ff } } : State).through
        (0o30 + ff.setWidth 15) (if s.h = .upper then s.p else s.p + 1)) := by
  obtain ⟨hp, hh⟩ := s.advance_place
  simp only [raiseCategoryII, append_zero_eq_setWidth, hp, hh]
  exact enterThrough_done { s with aug := none, catII := _ } _ _ hq h

/-- Settles O33: without the option the operand is not sought, and Category II entered (`raiseCategoryII_done`). -/
theorem floatingTrap : Obligations.FloatingTrap := by
  intro b m s hfpo hq after
  have trapped (k : FpKind) (ff : BitVec 2) (h : s.enterable (0o30 + ff.setWidth 15) after) :=
    (if_neg (by simp [hfpo]) : float k ff b m s = _).trans (raiseCategoryII_done s ff hq h)
  simp only [List.forall_mem_cons]
  exact ⟨trapped .fad 0, trapped .fsb 1, trapped .fmu 2, trapped .fdv 3, List.forall_mem_nil _⟩

theorem exec_illegal {i : Instr} (h : isIllegal i = true) (s : State) : exec i s = raiseCategoryIII s := by
  cases i with
  | ill26 r | ill27 r | ill777 r | ill747 r => rfl
  | _ => cases h

/-- Settles O49: every illegal code enters Category III, from either half (`raiseCategoryIII_done`). -/
theorem illegalTrap : Obligations.IllegalTrap := by
  intro i s hi hq he
  rw [exec_illegal hi, raiseCategoryIII_done s hq he]

/-- What the sampling asks (rule R440). -/
theorem interruptPending_iff (s : State) :
    s.interruptPending = true ↔ s.active = true ∧ s.catI.lockout = false ∧ s.aug = none ∧ s.ir &&& s.im ≠ 0 := by
  simp only [State.interruptPending, Bool.and_eq_true, Bool.not_eq_true', Option.isNone_iff_eq_none,
    decide_eq_true_eq, and_assoc]
  rfl

/-- Settles O57: the sampling by what it asks (`interruptPending_iff`), the entry as any return jump
(`enterThrough_done`). -/
theorem categoryIEntry : Obligations.CategoryIEntry := by
  intro s
  rw [← interruptPending_iff]
  refine ⟨fun hpending hq he => ?entered, fun hnone => ?passed⟩
  case entered =>
    rw [sample_pending s hpending]
    exact enterThrough_done { s with catI := _ } 0o7 s.p hq he
  case passed => exact sample_quiet s (Bool.eq_false_iff.mpr hnone)

/-! ## Reading a program step -/

/-- A word with bad parity stops the computer (rule R456). -/
theorem loadU_bad (s : State) (hp : s.present s.p = true) (hb : badParity (s.cell s.p) = true) :
    loadU s = .next
      { s with u := s.word s.p, irLatch := setBit s.irLatch 46, run := .stopped .instructionParity } :=
  (loadU_eq_next s _).mpr ⟨hp, .inr ⟨hb, rfl⟩⟩

theorem fetch_in (s : State) (ha : s.allowed s.p = true) : fetch s = loadU { s with aug := none } := by
  have h : ({ s with aug := none } : State).allowed s.p = true := ha
  simp only [fetch, h, if_true]

/-- Out of bounds the word is read all the same (rule R461). -/
theorem fetch_out (s : State) (ha : s.allowed s.p = false) :
    fetch s = loadU { s with aug := none, irLatch := setBit s.irLatch 42 } := by
  have h : ({ s with aug := none } : State).allowed s.p = false := ha
  simp only [fetch, h, Bool.false_eq_true, if_false]
  rfl

/-- A computer that the reading has stopped executes nothing (rule R456). -/
theorem runInstruction_stopped {s t : State} (hh : s.h = .upper) (hf : fetch s = .next t) (hr : t.isRunning = false) :
    runInstruction s = .next t := by
  simp [runInstruction, hh, hf, hr]

/-- Settles O60: the reading of a bad word by `loadU_bad`, of one out of bounds by `fetch_out`. -/
theorem instructionRead : Obligations.InstructionRead := by
  rintro s ⟨hin, hq⟩ hrun hh hp
  rw [step_computer s hin, act_running s hrun]
  refine ⟨fun ha hb => ?bad, fun i ha hg hd => ?out⟩
  case bad =>
    have hread := (fetch_in s ha).trans (loadU_bad { s with aug := none } hp hb)
    rw [runInstruction_stopped hh hread rfl]
    rfl
  case out =>
    have hread := (fetch_out s ha).trans (loadU_good { s with aug := none, irLatch := setBit s.irLatch 42 } hp hg)
    rw [runInstruction_read s _ hh hread (by simp [State.isRunning, hrun]) hq]
    have hword : decodeUpper (({ s with aug := none, irLatch := setBit s.irLatch 42 } : State).word s.p) = .ok i := hd
    rw [hword]
    rfl

/-! ## After reset -/

/-- Settles O8: the registers of the reset state are those its definition writes out (assumption 1). -/
theorem resetInvariant : Obligations.ResetInvariant where
  memory := Memory.wf_reset
  interrupt := BitVec.zero_and
  mask := BitVec.zero_and
  channel0 := rfl
  channel1 := rfl
  channel2 := rfl
  channel3 := rfl
  returning := by decide

/-- Settles O9: so are its bits and channels. -/
theorem resetValues : Obligations.ResetValues := by
  refine ⟨rfl, ?bits, ?channels⟩
  case bits => decide
  case channels => decide

end Sys2Proof.Machine
end

section
/-! The master clears and the switches that start the computer anew (rule R335, rule R473, rule R480 to rule R484,
rule R488). An external master clear is one clear of each installed channel in its turn; the clear of one channel
reaches another only through the machines that equipments of both are sides of (`Alike`). -/

namespace Sys2Proof.Machine

/-! ## A channel that another has reached -/

/-- From c to d a channel is as it was, but for the devices of those equipments that share a machine with another. -/
structure Alike (c d : Channel) : Prop where
  act : d.act = c.act
  connected : d.connected = c.connected
  wc : d.wc = c.wc
  ad : d.ad = c.ad
  op : d.op = c.op
  equips : ∃ F : Equipment → Device,
    d.equips = c.equips.map (fun e => { e with device := F e }) ∧ ∀ e, e.machine = none → F e = e.device

theorem Alike.refl (c : Channel) : Alike c c :=
  ⟨rfl, rfl, rfl, rfl, rfl, Equipment.device, (List.map_id _).symm, fun _ _ => rfl⟩

theorem Alike.trans {c d e : Channel} (h : Alike c d) (k : Alike d e) : Alike c e := by
  obtain ⟨F, hF, hown⟩ := h.equips
  obtain ⟨G, hG, hown'⟩ := k.equips
  refine ⟨k.act.trans h.act, k.connected.trans h.connected, k.wc.trans h.wc, k.ad.trans h.ad, k.op.trans h.op,
    fun f => G { f with device := F f }, ?_, fun f hf => ?_⟩
  · rw [hG, hF, List.map_map]
    rfl
  · exact (hown' { f with device := F f } hf).trans (hown f hf)

theorem equipmentFollow_eq (y : Nat) (src : List Equipment) (e : Equipment) :
    equipmentFollow y src e = { e with device := (equipmentFollow y src e).device } := by
  rw [equipmentFollow]
  split <;> rfl

/-- The sides of machines that follow another channel change nothing else (rule R360). -/
theorem alike_follow (y : Nat) (src : List Equipment) (c : Channel) : Alike c (c.follow y src) := by
  refine ⟨rfl, rfl, rfl, rfl, rfl, fun e => (equipmentFollow y src e).device, ?_, fun e he => ?_⟩
  · exact List.map_congr_left fun e _ => equipmentFollow_eq y src e
  · exact congrArg Equipment.device (equipmentFollow_own y src e he)

theorem Alike.getElem? {c d : Channel} (h : Alike c d) {i : Nat} {e : Equipment} (he : c.equips[i]? = some e) :
    ∃ v : Device, d.equips[i]? = some { e with device := v } ∧ (e.machine = none → v = e.device) := by
  obtain ⟨F, hF, hown⟩ := h.equips
  exact ⟨F e, by rw [hF, List.getElem?_map, he]; rfl, hown e⟩

theorem Alike.unconnected {c d : Channel} (h : Alike c d) (hc : ∀ e ∈ c.equips, e.connected = false) :
    ∀ e ∈ d.equips, e.connected = false := by
  obtain ⟨F, hF, -⟩ := h.equips
  rw [hF, List.forall_mem_map]
  exact hc

/-- What leaves the number switches leaves how many are set to a number. -/
theorem countNumber_map (n : BitVec 3) (f : Equipment → Equipment) (hf : ∀ e, (f e).number = e.number)
    (es : List Equipment) : countNumber n (es.map f) = countNumber n es := by
  simp only [countNumber, List.filter_map, List.length_map, Function.comp_def, hf]

theorem Alike.countNumber {c d : Channel} (h : Alike c d) (n : BitVec 3) :
    countNumber n d.equips = countNumber n c.equips := by
  obtain ⟨F, hF, -⟩ := h.equips
  rw [hF, countNumber_map n (fun e => { e with device := F e }) fun _ => rfl]

theorem cleared_countNumber (x : Nat) (k : ClearScope) (c : Channel) (n : BitVec 3) :
    countNumber n (c.cleared x k).equips = countNumber n c.equips := by
  rw [show (c.cleared x k).equips = clearAll x c.op k c.equips from rfl, clearAll]
  exact countNumber_map n
    (fun e => { e with connected := false, gated := false, device := deviceClear (e.link x c.op) k e.device })
    (fun _ => rfl) c.equips

/-! ## The external master clear -/

/-- Nothing but the channels and the Interrupt register differs. -/
def OnlyChannels (s t : State) : Prop := t = { s with channels := t.channels, irLatch := t.irLatch }

/-- A register that is neither is as it was. -/
theorem OnlyChannels.field {α : Type} {s t : State} (h : OnlyChannels s t) (f : State → α)
    (hf : ∀ c i, f { s with channels := c, irLatch := i } = f s := by intros; rfl) : f t = f s :=
  (congrArg f h).trans (hf _ _)

theorem OnlyChannels.trans {s t r : State} (h : OnlyChannels s t) (k : OnlyChannels t r) : OnlyChannels s r := by
  unfold OnlyChannels at h k ⊢
  rw [h] at k
  exact k

theorem onlyChannels_clearInstalled (s : State) (x : Nat) : OnlyChannels s (clearInstalled s x) := by
  rw [OnlyChannels, clearInstalled]
  split <;> rfl

theorem onlyChannels_externalMasterClear (s : State) : OnlyChannels s (externalMasterClear s) :=
  (onlyChannels_clearInstalled s 0).trans ((onlyChannels_clearInstalled _ 1).trans
    ((onlyChannels_clearInstalled _ 2).trans (onlyChannels_clearInstalled _ 3)))

theorem clearInstalled_params (s : State) (x : Nat) : (clearInstalled s x).params = s.params :=
  (onlyChannels_clearInstalled s x).field State.params

/-- The clear of channel x (rule R316). -/
theorem clearInstalled_same (s : State) {x : Nat} (hx : x < s.params.nchan) :
    (clearInstalled s x).channel x = (s.channel x).cleared x .external := by
  rw [clearInstalled, if_pos hx]
  exact State.putChannel_channel_same s x _ (hx.trans_le (nchan_le_four _))

theorem clearInstalled_other (s : State) {x y : Nat} (hx : x < 4) (hy : y < 4) (h : y ≠ x) :
    Alike (s.channel y) ((clearInstalled s x).channel y) := by
  rw [clearInstalled]
  split
  · have hput : (clearChannel .external s x).channel y = (s.channel y).follow y _ :=
      State.putChannel_channel_other s x y _ hx hy h
    rw [hput]
    exact alike_follow y _ _
  · exact .refl _

/-- An installed channel meets its own clear once; the others' reach the machines it shares with them. -/
theorem externalMasterClear_channel (s : State) {x : Nat} (hx : x < s.params.nchan) :
    ∃ c, Alike (s.channel x) c ∧ Alike (c.cleared x .external) ((externalMasterClear s).channel x) := by
  have other (t : State) {y : Nat} (hy : y < 4) (h : x ≠ y) :=
    clearInstalled_other t hy (hx.trans_le (nchan_le_four _)) h
  have own (t : State) (ht : t.params = s.params) := clearInstalled_same t (x := x) (ht ▸ hx)
  have h1 : (clearInstalled s 0).params = s.params := clearInstalled_params s 0
  have h2 := (clearInstalled_params (clearInstalled s 0) 1).trans h1
  have h3 := (clearInstalled_params _ 2).trans h2
  have hcases : x = 0 ∨ x = 1 ∨ x = 2 ∨ x = 3 := by
    have := hx.trans_le (nchan_le_four _)
    omega
  rw [externalMasterClear]
  obtain rfl | rfl | rfl | rfl := hcases
  · exact ⟨_, .refl _, own s rfl ▸ ((other _ (y := 1) (by decide) (by decide)).trans
      (other _ (y := 2) (by decide) (by decide))).trans (other _ (y := 3) (by decide) (by decide))⟩
  · exact ⟨_, other s (y := 0) (by decide) (by decide), own _ h1 ▸
      (other _ (y := 2) (by decide) (by decide)).trans (other _ (y := 3) (by decide) (by decide))⟩
  · exact ⟨_, (other s (y := 0) (by decide) (by decide)).trans (other _ (y := 1) (by decide) (by decide)),
      own _ h2 ▸ other _ (y := 3) (by decide) (by decide)⟩
  · exact ⟨_, ((other s (y := 0) (by decide) (by decide)).trans (other _ (y := 1) (by decide) (by decide))).trans
      (other _ (y := 2) (by decide) (by decide)), own _ h3 ▸ .refl _⟩

/-- A clear drops the Interrupt signal of every device (rule R351). -/
theorem deviceClear_interrupt (l : Link) (k : ClearScope) (d : Device) :
    deviceInterrupt l.channel (deviceClear l k d) = false := by
  cases d with
  | cardReader d =>
    simp only [deviceClear, deviceInterrupt, cardReaderClear]
    split
    · next h => simp [(Bool.and_eq_true_iff.mp h).1]
    · rfl
  | coupler d => simp [deviceClear, deviceInterrupt, couplerClear, couplerInterrupt]
  | _ => rfl

/-- What an external master clear does to an installed channel (rule R481). -/
theorem externalMasterClear_cleared (s : State) {x : Nat} (hx : x < s.params.nchan) :
    let c := (externalMasterClear s).channel x
    c.act = false ∧ c.connected = none ∧ c.wc = 0 ∧ c.ad = 0 ∧ (∀ e ∈ c.equips, e.connected = false) ∧
      ∀ (i : Nat) (e : Equipment), (s.channel x).equips[i]? = some e → ∃ d : Device,
        c.equips[i]? = some { e with connected := false, gated := false, device := d } ∧
        (e.machine = none →
          d = deviceClear (e.link x (s.channel x).op) .external e.device ∧ deviceInterrupt x d = false) := by
  obtain ⟨c, hbefore, hafter⟩ := externalMasterClear_channel s hx
  refine ⟨hafter.act, hafter.connected, hafter.wc, hafter.ad, hafter.unconnected ?dropped, fun i e he => ?each⟩
  case dropped =>
    show ∀ e ∈ clearAll x c.op .external c.equips, e.connected = false
    rw [clearAll, List.forall_mem_map]
    exact fun _ _ => rfl
  case each =>
    obtain ⟨v, hv, hown⟩ := hbefore.getElem? he
    have hclear := clearAll_getElem? x c.op .external c.equips i
    rw [hv, Option.map_some] at hclear
    obtain ⟨d, hd, hown'⟩ := hafter.getElem? hclear
    refine ⟨d, hd, fun hm => ?_⟩
    obtain rfl := hown hm
    rw [hown' hm, hbefore.op]
    exact ⟨rfl, deviceClear_interrupt (e.link x (s.channel x).op) .external e.device⟩

theorem clearInstalled_irLatch (s : State) (x : Nat) :
    (clearInstalled s x).irLatch = if x < s.params.nchan then clearBit s.irLatch (20 + x) else s.irLatch := by
  rw [clearInstalled]
  split <;> rfl

theorem clearBit_getLsbD_same (w : Word) (n : Nat) : (clearBit w n).getLsbD n = false := by
  by_cases hn : n < 48
  · simp [clearBit, hn]
  · exact BitVec.getLsbD_of_ge _ _ (Nat.le_of_not_lt hn)

/-- The clear of a channel clears its I/O Parity Error bit and no other (rule R481). -/
theorem clearInstalled_getLsbD (s : State) (x n : Nat) :
    (clearInstalled s x).irLatch.getLsbD n =
      (s.irLatch.getLsbD n && !(decide (n = 20 + x) && decide (x < s.params.nchan))) := by
  rw [clearInstalled_irLatch]
  by_cases hx : x < s.params.nchan
  · by_cases hn : n = 20 + x
    · simp [hx, hn, clearBit_getLsbD_same]
    · simp [hx, hn, clearBit_get_other _ _ _ hn]
  · simp [hx]

theorem externalMasterClear_getLsbD (s : State) (n : Nat) :
    (externalMasterClear s).irLatch.getLsbD n =
      (s.irLatch.getLsbD n && !(decide (20 ≤ n) && decide (n < 24) && decide (n < 20 + s.params.nchan))) := by
  simp only [externalMasterClear, clearInstalled_getLsbD, clearInstalled_params]
  cases s.irLatch.getLsbD n
  · simp
  · rw [Bool.eq_iff_iff]
    simp only [Bool.true_and, Bool.and_eq_true, Bool.not_eq_true', Bool.and_eq_false_iff, decide_eq_false_iff_not]
    omega

/-! ## The internal master clear and the switches -/

/-- The bits an internal master clear clears are flip-flops, and not among those it leaves free (rule R480). -/
theorem internalMasterClear_ir (s : State) {n : Nat} (hn : n ∈ [1, 2, 3, 4, 5, 20, 21, 22, 23, 42, 43, 45, 46]) :
    (internalMasterClear s).ir.getLsbD n = false := by
  have hlatch : ∀ n ∈ [1, 2, 3, 4, 5, 20, 21, 22, 23, 42, 43, 45, 46],
      n ∉ [30, 31, 32, 33] ∧ (latchedBits &&& ~~~masterCleared).getLsbD n = false := by decide
  obtain ⟨hline, hbit⟩ := hlatch n hn
  rw [ir_getLsbD_latched _ n hline]
  show ((s.free 6 &&& (latchedBits &&& ~~~masterCleared)).getLsbD n && latchedBits.getLsbD n) = false
  rw [BitVec.getLsbD_and, hbit, Bool.and_false, Bool.false_and]

theorem operate_locked {s : State} (hlock : s.switchesLive = false) (r : Res State) : operate s r = .next s := by
  simp [operate, hlock]

/-- With System Active and Maintenance Mode off a switch of the console or its typewriter does nothing (rule R473). -/
theorem deliver_locked {s : State} {e : Event} (hlock : s.switchesLive = false) (he : isLockable s e = true) :
    deliver e s = .next s := by
  cases e with
  | go | restart | autoLoad | internalMasterClear | externalMasterClear | autoLoadSwitches | manualStart =>
    exact operate_locked hlock _
  | manualInterrupt | endOfRecordSwitch | jumpSwitch | stopSwitch => exact operate_locked hlock _
  | equipment x i h =>
    have hswitch : s.switchOf x.val i h = true := he
    rw [deliver, agentEvent, if_pos hswitch, operate_locked hlock]
  | equipmentNumber x i n =>
    have hnumber : s.typewriterAt x.val i = true := he
    rw [deliver, agentEvent]
    simp only [hnumber, if_true, operate_locked hlock]
  | _ => cases he

/-- Settles O10: the internal clear by the bits it masks, the external one channel by channel
(`externalMasterClear_cleared`), the switches by what the model does for each. -/
theorem masterClears : Obligations.MasterClears := by
  refine ⟨fun s => ⟨fun n hn => internalMasterClear_ir s hn, rfl, rfl, rfl, rfl, rfl⟩,
    fun s => ⟨fun x hx => ?channel, onlyChannels_externalMasterClear s, fun n hn => ?bits⟩,
    fun s => ?goesOn, fun s => ?goesOff, fun s e hoff hmaint he => ?locked⟩
  case channel =>
    obtain ⟨hact, hconnected, hwc, had, hdropped, heach⟩ := externalMasterClear_cleared s hx
    have hparity : (externalMasterClear s).irLatch.getLsbD (20 + x) = false := by
      have hfour : 20 + x < 24 := Nat.add_lt_add_left (hx.trans_le (nchan_le_four _)) 20
      simp [externalMasterClear_getLsbD, hx, hfour]
    exact ⟨hact, hconnected, hwc, had, hparity, hdropped, heach⟩
  case bits =>
    rw [externalMasterClear_getLsbD]
    have : ¬(20 ≤ n ∧ n < 24) := by omega
    simp [← Bool.decide_and, this]
  case goesOn =>
    intro on hoff
    rw [deliver, systemActiveSwitch, if_neg (by simp [hoff])]
    rfl
  case goesOff =>
    intro off hon hrun
    rw [deliver, systemActiveSwitch, if_neg (by simp [hon])]
    simp only [Bool.false_eq_true, if_false, hrun]
    rfl
  case locked => exact deliver_locked (by simp [State.switchesLive, hoff, hmaint]) he

/-! ## Restart and Auto Load -/

theorem onlyChannels_connectChannel (s : State) (x : Nat) (c : Byte12) : OnlyChannels s (connectChannel s x c).2 := by
  simp only [OnlyChannels, connectChannel]
  split
  · rfl
  · split <;> rfl

theorem functionChannel_mem (s : State) (x : Nat) (c : Byte12) : (functionChannel s x c).2.mem = s.mem := by
  simp only [functionChannel]
  split
  · rfl
  · split <;> rfl

/-- A clear leaves the number switches of the equipments (rule R481). -/
theorem externalMasterClear_countNumber (s : State) {x : Nat} (hx : x < s.params.nchan) (n : BitVec 3) :
    countNumber n ((externalMasterClear s).channel x).equips = countNumber n (s.channel x).equips := by
  obtain ⟨c, hbefore, hafter⟩ := externalMasterClear_channel s hx
  rw [hafter.countNumber, cleared_countNumber, hbefore.countNumber]

/-- Auto Load on an installed channel x (rule R335): c is the state after the clears and f that after the codes; two
equipments of one number are refused, and else the Read begins. -/
theorem autoLoad_eq {s c f : State} {x : Fin 4} (hx : s.console.autoChannel = x) (hin : x.val < s.params.nchan)
    (hc : externalMasterClear (internalMasterClear s) = c)
    (hf : (functionChannel (connectChannel c x.val s.console.autoConnect).2 x.val s.console.autoFunction).2 = f) :
    autoLoad s =
      if 1 < countNumber (s.console.autoConnect.extractLsb' 9 3) (s.channel x.val).equips then
        .refused .duplicateEquipment
      else .next { activate f x.val .read 0o40000 s.params.autoloadStart with run := .loading x } := by
  have hclear : OnlyChannels (internalMasterClear s) c := hc ▸ onlyChannels_externalMasterClear _
  have hconsole : c.console = s.console := hclear.field State.console
  have hparams : c.params = s.params := hclear.field State.params
  have hcount (n : BitVec 3) : countNumber n (c.channel x.val).equips = countNumber n (s.channel x.val).equips :=
    hc ▸ externalMasterClear_countNumber (internalMasterClear s) hin n
  have hcode : (connectChannel c x.val s.console.autoConnect).2.console = s.console :=
    ((onlyChannels_connectChannel c x.val _).field State.console).trans hconsole
  have hstart : f.params = s.params :=
    hf ▸ ((frame_connectChannel c x.val _).trans (frame_functionChannel _ x.val _)).params.trans hparams
  rw [autoLoad]
  simp only [hc, hconsole, hx, hparams, hcount, hcode, hf, hstart, if_pos hin]

/-- A Read that has begun (rule R318). -/
theorem activate_channel (s : State) {x : Nat} (hx : x < 4) (dir : Direction) (wc ad : Addr) :
    ((activate s x dir wc ad).channel x).wc = wc ∧ ((activate s x dir wc ad).channel x).ad = ad ∧
      ((activate s x dir wc ad).channel x).dir = dir ∧ ((activate s x dir wc ad).channel x).act = true := by
  simp only [activate, State.putChannel_channel_same _ _ _ hx, and_self]

/-- Settles O11: Restart is an entry by return jump after the clear (`enterThrough_done`), Auto Load what `autoLoad_eq`
says, and the start after it again an entry, or the upper instruction of 00000. -/
theorem restartAndAutoLoad : Obligations.RestartAndAutoLoad := by
  refine ⟨fun s hlive hq => ?restart, fun s hlive hx => ?autoLoad, fun s hin hrun => ?entry⟩
  case restart =>
    intro r he
    rw [deliver, operate, if_pos hlive, restart]
    have hquiet : r.Quiet := ((onlyChannels_externalMasterClear s).field State.between).trans hq
    exact enterThrough_done r 0 s.p hquiet he
  case autoLoad =>
    intro x n
    have hload : deliver .autoLoad s = autoLoad s := by rw [deliver, operate, if_pos hlive]
    rw [hload, autoLoad_eq rfl hx rfl rfl]
    refine ⟨fun hn => if_pos hn, ?_⟩
    intro c connected functioned hn
    obtain ⟨hwc, had, hdir, hact⟩ :=
      activate_channel functioned s.console.autoChannel.isLt .read 0o40000 s.params.autoloadStart
    have hclear : OnlyChannels (internalMasterClear s) c := onlyChannels_externalMasterClear _
    have hconnect : OnlyChannels c connected := onlyChannels_connectChannel c x _
    have honly : OnlyChannels (internalMasterClear s) connected := hclear.trans hconnect
    have hf : AgentFrame connected functioned := frame_functionChannel _ x _
    refine ⟨_, if_neg (Nat.not_lt.mpr hn), rfl, hwc, had, hdir, hact, ?mem, ?bl, ?bu⟩
    case mem => exact (functionChannel_mem _ _ _).trans (honly.field State.mem)
    case bl => exact hf.bl.trans (honly.field State.bl)
    case bu => exact hf.bu.trans (honly.field State.bu)
  case entry =>
    intro r
    rw [step_computer s hin, act_loaded s hrun, autoLoadEntry]
    refine ⟨fun hupper => ?begins, fun hlower hq he => ?returns⟩
    case begins =>
      simp only [hupper]
      rfl
    case returns =>
      simp only [hlower]
      exact enterThrough_done r 0 s.p hq he

end Sys2Proof.Machine
end

section
/-! The sides of a shared machine (rule R360, rule R400, rule R409): a printer, a card punch or a card reader, reserved
through one channel, rejects a CONN on another, and its status says so there. -/

namespace Sys2Proof.Machine

/-! ## The device as its channels see it -/

/-- A printer, card punch or card reader that nobody has reserved or uses. -/
def IsFreeMachine (p : Device) : Prop :=
  (∃ d : Printer, p = .printer d ∧ d.machine = {}) ∨
    (∃ d : CardPunch, p = .cardPunch d ∧ d.holder = .free ∧ d.user = none) ∨
    (∃ d : CardReader, p = .cardReader d ∧ d.holder = .free ∧ d.user = none)

/-- The device, reserved through channel x: a code issued to a punch also drops its Compare Error (rule R401). -/
def reservedBy (x : Nat) : Device → Device
  | .printer d => .printer { d with machine := { d.machine with holder := .channel x } }
  | .cardPunch d => .cardPunch { d with holder := .channel x, compareError := false }
  | .cardReader d => .cardReader { d with holder := .channel x }
  | d => d

/-- Line 11 of a status code says that someone else has the machine reserved; the others say nothing of it. -/
theorem statusLine_reserve (b : Bool) : (statusLine 11 b).getLsbD 11 = b := by
  revert b
  decide

theorem statusLine_other {i : Nat} (hi : i < 11) (b : Bool) : (statusLine i b).getLsbD 11 = false := by
  revert i b
  decide

theorem Selections.status_reserve (t : Selections) : t.status.getLsbD 11 = false := by
  simp (disch := decide) only [Selections.status, BitVec.getLsbD_or, statusLine_other, Bool.or_self]

section Reserved

variable {p : Device} (hp : IsFreeMachine p)

include hp

/-- A free machine replies to a connect code and is reserved by its channel (rule R361, rule R401, rule R409). -/
theorem deviceConnect_free (x : Nat) (c : Byte12) : deviceConnect x c p = (.reply, reservedBy x p) := by
  obtain ⟨d, rfl, hm⟩ | ⟨d, rfl, hh, hu⟩ | ⟨d, rfl, hh, hu⟩ := hp
  · simp [deviceConnect, printerConnect, reservedBy, hm, Holder.others]
  · simp [deviceConnect, cardPunchConnect, reservedBy, CardPunch.taken, Holder.orUser, hh, hu, Holder.others]
  · simp [deviceConnect, cardReaderConnect, reservedBy, CardReader.taken, Holder.orUser, hh, hu, Holder.others]

/-- Reserved by another channel it rejects the code and is left as it is. -/
theorem deviceConnect_reserved {x y : Nat} (hxy : x ≠ y) (c : Byte12) :
    deviceConnect y c (reservedBy x p) = (.reject, reservedBy x p) := by
  obtain ⟨d, rfl, hm⟩ | ⟨d, rfl, hh, hu⟩ | ⟨d, rfl, hh, hu⟩ := hp
  · simp [deviceConnect, printerConnect, reservedBy, hm, Holder.others, hxy]
  · simp [deviceConnect, cardPunchConnect, reservedBy, CardPunch.taken, Holder.orUser, hu, Holder.others, hxy]
  · simp [deviceConnect, cardReaderConnect, reservedBy, CardReader.taken, Holder.orUser, hu, Holder.others, hxy]

/-- After the Reject its status is gated to the channel all the same (rule R351). -/
theorem deviceGates_reserved (x : Nat) : deviceGates .reject (reservedBy x p) = true := by
  obtain ⟨d, rfl, -⟩ | ⟨d, rfl, -⟩ | ⟨d, rfl, -⟩ := hp <;> rfl

/-- The other side of the machine is reserved with it (rule R360). -/
theorem deviceFollow_reserved (x y : Nat) : deviceFollow y (reservedBy x p) p = reservedBy x p := by
  obtain ⟨d, rfl, -⟩ | ⟨d, rfl, -⟩ | ⟨d, rfl, -⟩ := hp <;> rfl

theorem deviceFollow_reserved_self (x y : Nat) : deviceFollow y (reservedBy x p) (reservedBy x p) = reservedBy x p := by
  obtain ⟨d, rfl, -⟩ | ⟨d, rfl, -⟩ | ⟨d, rfl, -⟩ := hp <;> rfl

/-- Status bit 11: someone else has it reserved (rule R364, rule R402, rule R410). -/
theorem deviceStatus_reserved (x : Nat) (l : Link) :
    (deviceStatus l (reservedBy x p)).getLsbD 11 = decide (x ≠ l.channel) := by
  obtain ⟨d, rfl, -⟩ | ⟨d, rfl, -, hu⟩ | ⟨d, rfl, -, hu⟩ := hp <;>
    simp (disch := decide) only [deviceStatus, reservedBy, BitVec.getLsbD_or, statusLine_other, statusLine_reserve,
      Selections.status_reserve, Bool.or_false, Bool.false_or, printerStatus, cardPunchStatus, CardPunch.taken,
      cardReaderStatus, CardReader.taken, *, Holder.orUser, Holder.others]

/-! ## The equipments of the two channels -/

variable (k : Nat) {c : Byte12} {n : BitVec 3} (hn : c.extractLsb' 9 3 = n)

include hn

theorem equipmentConnect_free (x : Nat) :
    equipmentConnect x c { number := n, machine := some k, device := p } =
      (.reply, { number := n, connected := true, machine := some k, device := reservedBy x p }) := by
  simp only [equipmentConnect, hn, if_true, deviceConnect_free hp]

theorem equipmentConnect_reserved {x y : Nat} (hxy : x ≠ y) :
    equipmentConnect y c { number := n, machine := some k, device := reservedBy x p } =
      (.reject, { number := n, gated := true, machine := some k, device := reservedBy x p }) := by
  simp only [equipmentConnect, hn, if_true, deviceConnect_reserved hp hxy, deviceGates_reserved hp, Bool.false_and]

end Reserved

/-- A side of a machine follows the one equipment of another channel that is a side of it too. -/
theorem equipmentFollow_single (y : Nat) {e f : Equipment} {k : Nat} (he : e.machine = some k)
    (hf : f.machine = some k) :
    equipmentFollow y [f] e = { e with device := deviceFollow y f.device e.device } :=
  equipmentFollow_side he (by simp [hf])

theorem statusLines_single (x : Nat) (op : Option Direction) (e : Equipment) (h : (e.connected || e.gated) = true) :
    statusLines x op [e] = deviceStatus (e.link x op) e.device := by
  simp [statusLines, h]

/-- The equipments of the channels after a connect code on channel x, which holds a single equipment. -/
theorem connectChannel_single {s : State} {x : Nat} (hx : x < 4) (c : Byte12) {e : Equipment}
    (hb : (s.channel x).blocked = false) (hf : (s.channel x).codeFault = false) (he : (s.channel x).equips = [e]) :
    (connectChannel s x c).1 = (equipmentConnect x c e).1 ∧
      ((connectChannel s x c).2.channel x).equips = [(equipmentConnect x c e).2] ∧
      ∀ y < 4, y ≠ x →
        ((connectChannel s x c).2.channel y) = (s.channel y).follow y [(equipmentConnect x c e).2] := by
  rw [connectChannel_sent hb hf, he, connectAll_single]
  refine ⟨rfl, ?_, fun y hy hne => State.putChannel_channel_other s x y _ hx hy hne⟩
  rw [State.putChannel_channel_same _ _ _ hx]

/-- Settles O54: the first code reserves the machine (`equipmentConnect_free`), the side on the other channel follows
(`deviceFollow_reserved`) and rejects the second (`equipmentConnect_reserved`). -/
theorem sharedMachines : Obligations.SharedMachines := by
  intro s x y k n n' c c' hx hy hxy hc hc' hbx hfx hby hfy p hp hex hey r q
  replace hp : IsFreeMachine p := hp
  obtain ⟨hreply, hrx, hry⟩ := connectChannel_single hx c hbx hfx hex
  rw [equipmentConnect_free hp k hc] at hreply hrx hry
  have hside : (r.2.channel y).equips = [{ number := n', machine := some k, device := reservedBy x p }] := by
    rw [hry y hy hxy.symm, Channel.follow, hey]
    simp only [List.map_cons, List.map_nil]
    rw [equipmentFollow_single y (k := k) rfl rfl, deviceFollow_reserved hp]
  obtain ⟨hblocked, hfault⟩ : (r.2.channel y).blocked = false ∧ (r.2.channel y).codeFault = false := by
    rw [hry y hy hxy.symm]
    exact ⟨hby, hfy⟩
  obtain ⟨hreject, hqy, hqx⟩ := connectChannel_single hy c' hblocked hfault hside
  rw [equipmentConnect_reserved hp k hc' hxy] at hreject hqy hqx
  refine ⟨hreply, hreject, ?shown, ?own⟩
  case shown =>
    rw [hqy, statusLines_single _ _ _ rfl, deviceStatus_reserved hp]
    exact decide_eq_true hxy
  case own =>
    rw [hqx x hx hxy, Channel.follow, hrx]
    simp only [List.map_cons, List.map_nil]
    rw [equipmentFollow_single x (k := k) rfl rfl, statusLines_single _ _ _ rfl, deviceFollow_reserved_self hp,
      deviceStatus_reserved hp]
    exact decide_eq_false fun h => h rfl

end Sys2Proof.Machine
end

section
/-! The return from a Category I or II interrupt (rule R446, rule R452): while it is under way (`Return`), a normal jump
that is made ends it, at the half the Exit flip-flop names, and nothing else does; the end of the instruction then
samples the one and refuses the other (file 93, U15). -/

namespace Sys2Proof.Machine

/-! ## What ends no return -/

/-- If this part of an instruction, begun in s, goes on at all, a return under way in s still is. -/
def KeepsReturn (s : State) (r : Res State) : Prop := ∀ t, r = .next t → t.ret = s.ret

section Operations

variable {s t : State} {r : Res State} {m : Addr}

theorem keepsReturn_next (h : t.ret = s.ret := by rfl) : KeepsReturn s (.next t) := by
  rintro _ ⟨⟩
  exact h

theorem keepsReturn_refused (x : Refusal) : KeepsReturn s (.refused x) := by rintro _ ⟨⟩

theorem keepsReturn_from (k : KeepsReturn t r) (h : t.ret = s.ret := by rfl) : KeepsReturn s r :=
  fun x hx => (k x hx).trans h

theorem keepsReturn_andThen {f : State → Res State} (h : KeepsReturn s r) (k : ∀ x, KeepsReturn x (f x)) :
    KeepsReturn s (andThen r f) := by
  intro t ht
  obtain ⟨x, hx, ht⟩ := (andThen_eq_next r f t).mp ht
  exact (k x t ht).trans (h x hx)

theorem keepsReturn_ite {c : Prop} [Decidable c] {r' : Res State} (h : KeepsReturn s r) (k : KeepsReturn s r') :
    KeepsReturn s (if c then r else r') := by
  split
  · exact h
  · exact k

theorem keepsReturn_gap : KeepsReturn s (gap s) := fun _ h => (frame_gap _ _ h).ret

theorem keepsReturn_withRead {rest : Word → State → Res State} (h : ∀ v x, KeepsReturn x (rest v x)) :
    KeepsReturn s (withRead s m rest) :=
  keepsReturn_ite (keepsReturn_from (h _ _)) (keepsReturn_refused _)

theorem keepsReturn_storeCell {f : Cell → Cell} : KeepsReturn s (storeCell s m f) :=
  keepsReturn_ite (keepsReturn_ite keepsReturn_next (keepsReturn_refused _)) keepsReturn_next

theorem keepsReturn_storeNext {f : Cell → Cell} : KeepsReturn s (storeNext (storeCell s m f)) :=
  keepsReturn_andThen keepsReturn_storeCell fun _ => keepsReturn_next

theorem keepsReturn_withResolved {b : BitVec 3} {rest : BitVec 3 → Addr → State → Res State}
    (h : ∀ b m x, KeepsReturn x (rest b m x)) : KeepsReturn s (withResolved s b m rest) := by
  intro t ht
  obtain ⟨b', m', x, hr, ht⟩ | ⟨x, hr, rfl⟩ := withResolved_eq_next s b m rest t ht
  · exact (h b' m' x t ht).trans hr.frame.ret
  · have hret := (frame_resolve b m s _ hr).ret
    exact hret

theorem keepsReturn_withEffective {b : BitVec 3} {rest : Addr → State → Res State}
    (h : ∀ e x, KeepsReturn x (rest e x)) : KeepsReturn s (withEffective s b m rest) :=
  keepsReturn_withResolved fun _ _ _ => h _ _

theorem keepsReturn_withOperand {b : BitVec 3} {rest : Word → State → Res State}
    (h : ∀ v x, KeepsReturn x (rest v x)) : KeepsReturn s (withOperand s b m rest) :=
  keepsReturn_withEffective fun _ _ => keepsReturn_withRead h

theorem keepsReturn_skipIf (c : Bool) : KeepsReturn s (.next (s.skipIf c)) := by
  cases c <;> exact keepsReturn_next

theorem keepsReturn_enterThrough {v : Addr} : KeepsReturn s (enterThrough s m v) := fun _ h => enterThrough_ret h

/-- A return jump is no normal jump (rule R241, rule R446). -/
theorem keepsReturn_returnJump : KeepsReturn s (returnJump s m) :=
  keepsReturn_ite keepsReturn_enterThrough keepsReturn_next

theorem keepsReturn_returnJumpIf {c : Bool} : KeepsReturn s (returnJumpIf c s m) :=
  keepsReturn_ite keepsReturn_returnJump keepsReturn_next

theorem keepsReturn_stopIf {c : Bool} : KeepsReturn s (stopIf c true s m) :=
  keepsReturn_ite keepsReturn_next keepsReturn_returnJump

theorem keepsReturn_raiseCategoryIII : KeepsReturn s (raiseCategoryIII s) := keepsReturn_from keepsReturn_enterThrough

theorem keepsReturn_float {k : FpKind} {ff : BitVec 2} {b : BitVec 3} : KeepsReturn s (float k ff b m s) :=
  keepsReturn_ite (keepsReturn_withOperand fun _ _ => keepsReturn_next)
    (keepsReturn_from keepsReturn_enterThrough)

theorem keepsReturn_withShift {b : BitVec 3} {rest : Nat → State → State} (h : ∀ n x, (rest n x).ret = x.ret) :
    KeepsReturn s (withShift s b m rest) :=
  keepsReturn_withEffective fun _ _ => keepsReturn_next (h _ _)

theorem keepsReturn_replaceWith {b : BitVec 3} {y : State → Word} : KeepsReturn s (replaceWith s b m y) :=
  keepsReturn_withEffective fun _ _ => keepsReturn_withRead fun _ _ => keepsReturn_andThen keepsReturn_gap fun _ =>
    keepsReturn_andThen (keepsReturn_from keepsReturn_storeCell) fun _ => keepsReturn_next

theorem divideQA_ret (s : State) (d : Word) : (divideQA s d).ret = s.ret := by
  rw [divideQA]
  split <;> rfl

theorem keepsReturn_searchList (hit : Word → State → Bool) (b : BitVec 3) (m : Addr) (n : Nat) (s : State) :
    KeepsReturn s (searchList hit b m n s) := by
  induction n generalizing s with
  | zero => exact keepsReturn_next
  | succ n ih =>
    rw [searchList]
    exact keepsReturn_from (keepsReturn_withRead fun _ _ => keepsReturn_ite keepsReturn_next
      (keepsReturn_ite keepsReturn_next (keepsReturn_andThen keepsReturn_gap ih)))

theorem keepsReturn_search {b : BitVec 3} {hit : Word → State → Bool} : KeepsReturn s (search s b m hit) :=
  keepsReturn_withResolved fun _ _ _ => keepsReturn_ite
    (keepsReturn_withRead fun _ _ => keepsReturn_skipIf _) (keepsReturn_searchList _ _ _ _ _)

theorem keepsReturn_withChannel {x : BitVec 3} {rest : Nat → Channel → Res State}
    (h : ∀ y c, KeepsReturn s (rest y c)) : KeepsReturn s (withChannel s x rest) :=
  keepsReturn_ite (h _ _) (keepsReturn_refused _)

theorem applyInf_ret (o : InfOp) (s : State) : (applyInf o s).ret = s.ret := by
  cases o <;> rfl

end Operations

/-- An instruction that can make no normal jump ends no return (rule R446, rule R452). -/
theorem exec_keepsReturn {i : Instr} (hi : jumpsNormally i = false) (s : State) : KeepsReturn s (exec i s) := by
  cases i with
  | ajp | qjp | ijp | slj | sj1 | sj2 | sj3 | sls | ss1 | ss2 | ss3 | conn | extf | begr | begw => cases hi
  | iaq | cis y | cpr y =>
    rw [exec]
    exact keepsReturn_next
  | ati b =>
    rw [exec]
    exact keepsReturn_ite keepsReturn_next (keepsReturn_refused _)
  | ars b k | als b k | qrs b k | qls b k | lrs b k | lls b k =>
    rw [exec]
    exact keepsReturn_withShift fun _ _ => rfl
  | ena b y | enq b y | ina b y =>
    rw [exec]
    exact keepsReturn_withEffective fun _ _ => keepsReturn_next
  | lda b m | lac b m | ldq b m | lqc b m | sst b m | scl b m | scm b m | ssu b m | ldl b m | mui b m | add b m
  | sub b m | adl b m | sbl b m =>
    rw [exec]
    exact keepsReturn_withOperand fun _ _ => keepsReturn_next
  | dvi b m =>
    rw [exec]
    exact keepsReturn_withOperand fun _ _ => keepsReturn_next (divideQA_ret _ _)
  | ssk b m =>
    rw [exec]
    exact keepsReturn_withOperand fun _ _ => keepsReturn_skipIf _
  | fad b m | fsb b m | fmu b m | fdv b m =>
    rw [exec]
    exact keepsReturn_float
  | sta b m | stq b m | stl b m | sau b m | sal b m =>
    rw [exec]
    exact keepsReturn_withEffective fun _ _ => keepsReturn_storeNext
  | siu b m | sil b m =>
    rw [exec]
    exact keepsReturn_withResolved fun _ _ _ => keepsReturn_storeNext
  | sca b k | scq b k | eni b y | ini b y =>
    rw [exec]
    exact keepsReturn_withResolved fun _ _ _ => keepsReturn_next
  | liu b m | lil b m =>
    rw [exec]
    exact keepsReturn_withResolved fun _ _ _ => keepsReturn_withRead fun _ _ => keepsReturn_next
  | isk b y =>
    rw [exec]
    exact keepsReturn_withResolved fun _ _ _ => keepsReturn_ite keepsReturn_next keepsReturn_next
  | ssh b m =>
    rw [exec]
    exact keepsReturn_withEffective fun _ _ => keepsReturn_withRead fun _ _ => keepsReturn_andThen keepsReturn_gap
      fun _ => keepsReturn_andThen keepsReturn_storeCell fun _ => keepsReturn_skipIf _
  | rad b m | rsb b m | rao b m | rso b m =>
    rw [exec]
    exact keepsReturn_replaceWith
  | eqs b m | ths b m | meq b m | mth b m =>
    rw [exec]
    exact keepsReturn_search
  | arj j m | qrj j m | rj1 m | rj2 m | rj3 m =>
    rw [exec]
    exact keepsReturn_returnJumpIf
  | rtj m =>
    rw [exec]
    exact keepsReturn_returnJump
  | srj m | sr1 m | sr2 m | sr3 m =>
    rw [exec]
    exact keepsReturn_stopIf
  | ill26 r | ill27 r | ill777 r | ill747 r =>
    rw [exec]
    exact keepsReturn_raiseCategoryIII
  | undef62 r =>
    rw [exec]
    exact keepsReturn_refused _
  | inf y =>
    rw [exec, execInf]
    split
    · exact keepsReturn_next (applyInf_ret _ s)
    · exact keepsReturn_refused _
  | aug y =>
    rw [exec, execAug]
    split
    · exact keepsReturn_next
    · exact keepsReturn_withEffective fun _ _ => keepsReturn_next
  | sen y =>
    rw [exec, execSen]
    split
    · exact keepsReturn_next
    · exact keepsReturn_skipIf _
    · exact keepsReturn_refused _
  | eub y | elb y =>
    rw [exec]
    exact keepsReturn_ite keepsReturn_raiseCategoryIII keepsReturn_next
  | copy n x m | clch n x m | ccwd n x m =>
    rw [exec]
    exact keepsReturn_withChannel fun _ _ => keepsReturn_next
  | ldc b v m =>
    rw [exec]
    exact keepsReturn_ite (keepsReturn_withOperand fun _ _ => keepsReturn_next) (keepsReturn_refused _)
  | stc b v m =>
    rw [exec]
    exact keepsReturn_ite
      (keepsReturn_withEffective fun _ _ => keepsReturn_withRead fun _ _ => keepsReturn_andThen keepsReturn_gap
        fun _ => keepsReturn_andThen keepsReturn_storeCell fun _ => keepsReturn_next)
      (keepsReturn_refused _)

/-! ## A return under way -/

/-- In t a return is under way, to the lower half if exit, its jump made without a bounds check if free; the computer
runs and no other agent acts. -/
structure Returning (exit free : Bool) (t : State) : Prop where
  ret : t.ret = some { half := if exit = true then .lower else .upper, unchecked := free }
  run : t.run = .running
  quiet : t.Quiet

/-- The jump of the return to m is no violation, and a lower half that it enters can be read (assumption 9). -/
def Lands (exit free : Bool) (t : State) (m : Addr) : Prop :=
  (t.allowed m = true ∨ free = true) ∧ (exit = true → t.present m = true ∧ badParity (t.cell m) = false)

/-- What becomes of a step whose normal jump to m ends the return, or is refused by the bounds check. -/
def EndsReturn (exit free : Bool) (t : State) (m : Addr) (r : Res State) : Prop :=
  (Lands exit free t m → r = sample (t.returned m exit)) ∧
    (t.allowed m = false → free = false → r = .refused .undefinedReturn)

/-- What the sequence goes on with after a jump that is not made: no end of a return. -/
def GoesOn (f : State → State) : Prop := ∀ s, (f s).ret = s.ret ∧ (f s).run = s.run

theorem goesOn_advance : GoesOn State.advance := fun _ => ⟨rfl, rfl⟩

theorem goesOn_nextStep : GoesOn State.nextStep := fun _ => ⟨rfl, rfl⟩

/-- At a selective stop that holds a jump, or a return jump if ret, to m (rule R249, rule R250). -/
def State.atStop (t : State) (ret : Bool) (m : Addr) : State := { t with run := .stopped (.sls ret m false) }

section Ending

variable {exit free : Bool} {t u : State} {m : Addr}

theorem Returning.agent (h : Returning exit free t) (hf : AgentFrame t u) (hq : u.Quiet) : Returning exit free u :=
  ⟨hf.ret.trans h.ret, (hf.run fun x hx => by simp [h.run] at hx).trans h.run, hq⟩

/-- So it is after indirect addressing. -/
theorem Returning.reaches (h : Returning exit free t) {b b' : BitVec 3} {m' : Addr} (hr : Reaches t b m b' m' u) :
    Returning exit free u :=
  h.agent hr.frame ((keeps_resolve (w := anyWord) hr).quiet h.quiet)

/-- The instruction has ended, and the return has not: it is refused (file 93, U15). -/
theorem Returning.finish_refused (h : Returning exit free t) (half : Half) (hret : u.ret = t.ret)
    (hended : u.unfinished = false) : finish half u = .refused .undefinedReturn :=
  finish_return half u (by simp [hret, h.ret]) hended

theorem unfinished_of_running (h : u.run = .running) : u.unfinished = false := by simp [State.unfinished, h]

theorem Returning.finish_goesOn (h : Returning exit free t) (half : Half) {f : State → State} (hf : GoesOn f) :
    finish half (f t) = .refused .undefinedReturn :=
  h.finish_refused half (hf t).1 (unfinished_of_running ((hf t).2.trans h.run))

/-- The jump goes to the half the Exit flip-flop names (rule R446, rule R452). -/
theorem Returning.takeJump (h : Returning exit free t)
    (hm : exit = true → t.present m = true ∧ badParity (t.cell m) = false) :
    takeJump t m = .next (t.returned m exit) := by
  rw [Machine.takeJump, h.ret]
  cases exit with
  | false => rfl
  | true =>
    obtain ⟨hp, hg⟩ := hm rfl
    exact loadU_good { t with ret := none, p := m, h := .lower } hp hg

theorem Returning.jumpAllowed (h : Returning exit free t) : t.jumpAllowed m = (t.allowed m || free) := by
  rw [State.jumpAllowed, h.ret]

/-- The return is over and its instruction sampled like any other (rule R440). -/
theorem Returning.finish_returned (h : Returning exit free t) :
    finish .upper (t.returned m exit) = sample (t.returned m exit) := by
  have hreturned : (t.returned m exit).ret = none ∧ (t.returned m exit).run = .running ∧ (t.returned m exit).Quiet := by
    cases exit <;> exact ⟨rfl, h.run, h.quiet⟩
  obtain ⟨hret, hrun, hq⟩ := hreturned
  exact finish_sampled .upper _ hret hrun hq

/-- A normal jump in a return word (rule R446, rule R452). -/
theorem Returning.ends_jumpElse (h : Returning exit free t) {f : State → State} (hf : GoesOn f) :
    EndsReturn exit free t m (andThen (jumpElse t m f) (finish .upper)) := by
  rw [jumpElse, h.jumpAllowed]
  refine ⟨fun ⟨hallowed, hm⟩ => ?made, fun hout hchecked => ?refused⟩
  case made =>
    rw [if_pos (Bool.or_eq_true_iff.mpr hallowed), h.takeJump hm]
    exact h.finish_returned
  case refused =>
    have hviolation : Returning exit free t.violation := ⟨h.ret, h.run, h.quiet⟩
    rw [if_neg (by simp [hout, hchecked])]
    exact hviolation.finish_goesOn .upper hf

/-- A code that is answered ends no return; one that is not takes the reject jump, which does (rule R306). -/
theorem Returning.ends_answered {r : Answer × State} (h : Returning exit free r.2) :
    (r.1 = .reply → andThen (answered r m) (finish .upper) = .refused .undefinedReturn) ∧
      (r.1 ≠ .reply → EndsReturn exit free r.2 m (andThen (answered r m) (finish .upper))) := by
  refine ⟨fun hreply => ?reply, fun hno => ?reject⟩
  case reply =>
    rw [answered_reply m hreply]
    exact h.finish_goesOn .upper goesOn_nextStep
  case reject =>
    have hjump : answered r m = rejectJump r.2 m := by
      rw [answered]
      split
      case h_1 hreply => exact absurd hreply hno
      case h_2 => rfl
    rw [hjump]
    exact h.ends_jumpElse goesOn_nextStep

/-- A return jump ends no return, wherever it goes (rule R241). -/
theorem Returning.finish_returnJump (h : Returning exit free t) (half : Half) (hp : t.present m = true) :
    andThen (returnJump t m) (finish half) = .refused .undefinedReturn := by
  obtain ⟨u, hu⟩ : ∃ u, returnJump t m = .next u := by
    rw [returnJump]
    split
    · cases hg : badParity (t.linked m (t.p + 1))
      · exact ⟨_, enterThrough_done t m _ h.quiet ⟨hp, hg⟩⟩
      · exact ⟨_, (enterThrough_quiet t _ m _ h.quiet).mpr ⟨hp, .inr ⟨hg, rfl⟩⟩⟩
    · exact ⟨_, rfl⟩
  rw [hu]
  exact h.finish_refused half (keepsReturn_returnJump u hu) (returnJump_ended h.run hu)

/-- A stop in the return word leaves the return under way (rule R252). -/
theorem finish_atStop (t : State) (ret : Bool) (m : Addr) : finish .upper (t.atStop ret m) = .next (t.atStop ret m) :=
  finish_unfinished .upper (t.atStop ret m) rfl

/-- Go makes its jump, which ends the instruction. -/
theorem Returning.deliver_go (h : Returning exit free t) (ret : Bool) (hlive : t.switchesLive = true) :
    deliver .go (t.atStop ret m) = andThen (stopJump ret t m) (finish t.h) := by
  have hresumed : { t.atStop ret m with run := .running } = t := by
    rw [State.atStop, ← h.run]
  have hoff (r : Res State) : (andThen r fun u => .next (stopIfOff false u)) = r := by cases r <;> rfl
  refine (deliver_go_live (s := t.atStop ret m) hlive).trans ?_
  rw [go, hresumed]
  exact hoff _

end Ending

/-! ## The beginning of a return -/

/-- At word 00007 with Category I Mode set, or at the awaited word with Category II Mode set, v is s with the Mode
flip-flop (and Lockout) cleared; exit and free are what the return takes from s (rule R446, rule R452). -/
def BeginsReturn (s v : State) (exit free : Bool) : Prop :=
  s.p = 0o7 ∧ s.catI.mode = true ∧ exit = s.catI.exit ∧ free = !s.params.boundsInInterrupt ∧
      v = { s with catI := { s.catI with lockout := false, mode := false } } ∨
    s.p = 0o30 + s.catII.addr.setWidth 15 ∧ s.catII.mode = true ∧ exit = s.catII.exit ∧ free = false ∧
      v = { s with catII := { s.catII with mode := false } }

theorem BeginsReturn.trigger {s v : State} {exit free : Bool} (h : BeginsReturn s v exit free) :
    ∃ cI cII, v = { s with catI := cI, catII := cII } ∧ ∀ w, returnTrigger { s with aug := none, u := w } =
      { v with
        aug := none
        u := w
        ret := some { half := if exit = true then .lower else .upper, unchecked := free } } := by
  obtain ⟨hp, hmode, rfl, rfl, rfl⟩ | ⟨hp, hmode, rfl, rfl, rfl⟩ := h
  case inl =>
    refine ⟨_, s.catII, rfl, fun w => ?_⟩
    rw [returnTrigger, if_pos ⟨hp, hmode⟩]
    rfl
  case inr =>
    refine ⟨s.catI, _, rfl, fun w => ?_⟩
    have hseven : s.p ≠ 0o7 := by
      rw [hp]
      generalize s.catII.addr = ff
      revert ff
      decide
    rw [returnTrigger, if_neg fun h => hseven h.1, if_pos ⟨(append_zero_eq_setWidth _).symm ▸ hp, hmode⟩]
    rfl

/-! ## The instructions -/

/-- A busy channel rejects: the reject jump is taken (rule R306). -/
theorem exec_busy {s : State} {x : BitVec 3} (hx : x.toNat < s.params.nchan) (hbusy : (s.channel x.toNat).act = true)
    (n m : Addr) (c : Byte12) :
    ∀ i ∈ [Instr.conn n x c, .extf n x c, .begr n x m, .begw n x m], exec i s = rejectJump s n := by
  simp [exec, execConn, execExtf, execBegr, execBegw, withChannel_installed hx, hbusy]

theorem exec_ijp_reaches {s : State} {b : BitVec 3} {m : Addr} {b' : BitVec 3} {m' : Addr} {s' : State}
    (h : Reaches s b m b' m' s') :
    exec (.ijp b m) s = if s'.index b' = 0 then .next s'.advance
      else jump (s'.setIndex b' (countDown (s'.index b'))) m' := withResolved_reaches s b m b' m' s' h _

/-! ## The step in a return word -/

/-- The step from s executes the instruction read at P in t, in which a return is under way (rule R446, rule R452). -/
structure StepsInReturn (exit free : Bool) (s t : State) : Prop extends Returning exit free t where
  upper : t.h = .upper
  step : ∀ i, decodeUpper (s.word s.p) = .ok i → step s = andThen (exec i t) (finish .upper)

section Step

variable {exit free : Bool} {s t : State} {i : Instr} {m : Addr} {c : Bool} {cond : Prop}
  (h : StepsInReturn exit free s t)

include h

/-- An instruction that comes down to a normal jump under a condition, which holds. -/
theorem StepsInReturn.jumps {f : State → State} (hf : GoesOn f) (hexec : cond → exec i t = jumpElse t m f)
    (hd : decodeUpper (s.word s.p) = .ok i) (hc : cond) : EndsReturn exit free t m (Machine.step s) := by
  rw [h.step i hd, hexec hc]
  exact h.ends_jumpElse hf

/-- A jump whose condition fails. -/
theorem StepsInReturn.passes (hexec : exec i t = jumpIf c t m) (hc : c = true ↔ cond)
    (hd : decodeUpper (s.word s.p) = .ok i) (hn : ¬cond) : Machine.step s = .refused .undefinedReturn := by
  rw [h.step i hd, hexec, jumpIf, if_neg (mt hc.mp hn)]
  exact h.finish_goesOn .upper goesOn_advance

/-- A code sent on a channel that is idle. -/
theorem StepsInReturn.code {r : Answer × State} (hr : Returning exit free r.2) (hexec : cond → exec i t = answered r m)
    (hd : decodeUpper (s.word s.p) = .ok i) (hc : cond) :
    (r.1 = .reply → Machine.step s = .refused .undefinedReturn) ∧
      (r.1 ≠ .reply → Lands exit free r.2 m → Machine.step s = sample (r.2.returned m exit)) ∧
      (r.1 ≠ .reply → r.2.allowed m = false → free = false → Machine.step s = .refused .undefinedReturn) := by
  rw [h.step i hd, hexec hc]
  obtain ⟨hreply, hreject⟩ := hr.ends_answered (m := m)
  exact ⟨hreply, forall_and.mp hreject⟩

/-- A Read or Write that begins. -/
theorem StepsInReturn.begins {x : Nat} {dir : Direction} (hp : t.present m = true)
    (hexec : exec i t = andThen (startChannel t x dir m) fun u => .next u.nextStep)
    (hd : decodeUpper (s.word s.p) = .ok i) : Machine.step s = .refused .undefinedReturn := by
  obtain ⟨u, hu⟩ : ∃ u, startChannel t x dir m = .next u := ⟨_, if_pos hp⟩
  have hf : AgentFrame t u := frame_startChannel t u x dir m hu
  have hrun : u.run = .running := (hf.run fun y hy => by simp [h.run] at hy).trans h.run
  rw [h.step i hd, hexec, hu]
  exact h.finish_refused .upper hf.ret (unfinished_of_running hrun)

/-- A selective stop that stops, and Go after it. -/
theorem StepsInReturn.stops {ret : Bool} (hexec : exec i t = stopIf c ret t m) (hc : c = true ↔ cond)
    (hd : decodeUpper (s.word s.p) = .ok i) (hcond : cond) :
    Machine.step s = .next (t.atStop ret m) ∧
      (t.switchesLive = true → deliver .go (t.atStop ret m) = andThen (stopJump ret t m) (finish .upper)) := by
  rw [h.step i hd, hexec, stopIf_stops hc ret hcond]
  exact ⟨finish_atStop t ret m, fun hlive => h.upper ▸ h.deliver_go ret hlive⟩

theorem StepsInReturn.jumpStops (hexec : exec i t = stopIf c false t m) (hc : c = true ↔ cond)
    (hd : decodeUpper (s.word s.p) = .ok i) (hcond : cond) :
    Machine.step s = .next (t.atStop false m) ∧
      (t.switchesLive = true → Lands exit free t m → deliver .go (t.atStop false m) = sample (t.returned m exit)) ∧
      (t.switchesLive = true → t.allowed m = false → free = false →
        deliver .go (t.atStop false m) = .refused .undefinedReturn) := by
  obtain ⟨hstop, hgo⟩ := h.stops hexec hc hd hcond
  exact ⟨hstop, forall_and.mp fun hlive => hgo hlive ▸ h.ends_jumpElse goesOn_advance⟩

theorem StepsInReturn.returnJumpStops (hexec : exec i t = stopIf c true t m) (hc : c = true ↔ cond)
    (hd : decodeUpper (s.word s.p) = .ok i) (hcond : cond) :
    Machine.step s = .next (t.atStop true m) ∧
      (t.switchesLive = true → t.present m = true →
        deliver .go (t.atStop true m) = .refused .undefinedReturn) := by
  obtain ⟨hstop, hgo⟩ := h.stops hexec hc hd hcond
  exact ⟨hstop, fun hlive hp => (hgo hlive).trans (h.finish_returnJump .upper hp)⟩

/-- IJP: its jump, with the count reduced, or none (rule R246). -/
theorem StepsInReturn.counts {b b' : BitVec 3} {m' : Addr} {t' : State} (hd : decodeUpper (s.word s.p) = .ok (.ijp b m))
    (hr : Reaches t b m b' m' t') :
    (t'.index b' ≠ 0 →
      EndsReturn exit free (t'.setIndex b' (BitVec.ofNat 15 ((t'.index b').toNat - 1))) m' (Machine.step s)) ∧
    (t'.index b' = 0 → Machine.step s = .refused .undefinedReturn) := by
  have ht' : Returning exit free t' := h.toReturning.reaches hr
  rw [h.step _ hd, exec_ijp_reaches hr]
  refine ⟨fun hne => ?jumps, fun hzero => ?passes⟩
  case jumps =>
    have hset : Returning exit free (t'.setIndex b' (BitVec.ofNat 15 ((t'.index b').toNat - 1))) :=
      ⟨ht'.ret, ht'.run, ht'.quiet⟩
    rw [if_neg hne, countDown_eq _ hne]
    exact hset.ends_jumpElse goesOn_advance
  case passes =>
    rw [if_pos hzero]
    exact ht'.finish_goesOn .upper goesOn_advance

end Step

/-- Settles O58: each instruction comes down to a jump that ends the return (`Returning.ends_jumpElse`), or to something
that leaves it under way when the instruction ends (`Returning.finish_refused`). -/
theorem interruptReturns : Obligations.InterruptReturns := by
  intro s halone hrun hh hp ha hg v exit free hbegin
  obtain ⟨cI, cII, rfl, htrigger⟩ := BeginsReturn.trigger hbegin
  intro r t lands sw
  have ht : Returning exit free t := ⟨rfl, hrun, halone.2⟩
  have hs : StepsInReturn exit free s t := ⟨ht, hh, fun i hd => by
    rw [stepRunsInstruction.1 s i halone hrun hh hp ha hg hd, htrigger]⟩
  have always : true = true ↔ True := iff_of_true rfl trivial
  have live (on : Bool) : (t.console.maint && on) = true ↔ sw on := Bool.and_eq_true_iff
  refine ⟨fun j x c w m => ?normal, fun b m b' m' t' hd hr => ?count, fun x c m hx hidle => ?codes,
    fun x w m hx hidle hpresent => ?begins, fun m => ?stops, fun m => ?returnStops, fun i u hd hi hu hended => ?other,
    fun j m => ?failing⟩
  case normal =>
    intro busy
    have rejects : busy → ∀ i ∈ [Instr.conn m x c, .extf m x c, .begr m x w, .begw m x w], exec i t = rejectJump t m :=
      fun hb => exec_busy (s := t) hb.1 hb.2 m w c
    simp only [List.forall_mem_cons]
    refine ⟨?ajp, ?qjp, ?slj, ?sj1, ?sj2, ?sj3, ?ss1, ?ss2, ?ss3, ?conn, ?extf, ?begr, ?begw, List.forall_mem_nil _⟩
    case ajp => exact hs.jumps goesOn_advance fun hc => if_pos ((jumpCondition_iff j s.a).mpr hc)
    case qjp => exact hs.jumps goesOn_advance fun hc => if_pos ((jumpCondition_iff j s.q).mpr hc)
    case slj => exact hs.jumps goesOn_advance fun _ => rfl
    case sj1 => exact hs.jumps goesOn_advance fun hc => if_pos hc
    case sj2 => exact hs.jumps goesOn_advance fun hc => if_pos hc
    case sj3 => exact hs.jumps goesOn_advance fun hc => if_pos hc
    case ss1 => exact hs.jumps goesOn_advance fun hc => stopIf_goes_on (live s.console.stop1) false hc
    case ss2 => exact hs.jumps goesOn_advance fun hc => stopIf_goes_on (live s.console.stop2) false hc
    case ss3 => exact hs.jumps goesOn_advance fun hc => stopIf_goes_on (live s.console.stop3) false hc
    case conn => exact hs.jumps goesOn_nextStep fun hb => rejects hb _ (by simp)
    case extf => exact hs.jumps goesOn_nextStep fun hb => rejects hb _ (by simp)
    case begr => exact hs.jumps goesOn_nextStep fun hb => rejects hb _ (by simp)
    case begw => exact hs.jumps goesOn_nextStep fun hb => rejects hb _ (by simp)
  case count =>
    obtain ⟨hjumps, hpasses⟩ := hs.counts hd hr
    obtain ⟨hlands, hout⟩ := forall_and.mp hjumps
    exact ⟨hlands, hout, hpasses⟩
  case codes =>
    intro one
    have hfour : x.toNat < 4 := hx.trans_le (nchan_le_four _)
    simp only [List.forall_mem_cons]
    refine ⟨?conn, ?extf, List.forall_mem_nil _⟩
    case conn =>
      exact hs.code (ht.agent (frame_connectChannel _ _ _) ((keeps_connectChannel (w := anyWord) _ _).quiet ht.quiet))
        (exec_conn_idle (s := t) hx hidle)
    case extf =>
      exact hs.code
        (ht.agent (frame_functionChannel _ _ _) ((keeps_functionChannel (w := anyWord) hfour _).quiet ht.quiet))
        fun _ => exec_extf_idle (s := t) hx hidle
  case begins =>
    obtain ⟨hread, hwrite⟩ := exec_begin_idle (s := t) (n := m) (m := w) hx hidle
    simp only [List.forall_mem_cons]
    exact ⟨hs.begins hpresent hread, hs.begins hpresent hwrite, List.forall_mem_nil _⟩
  case stops =>
    simp only [List.forall_mem_cons]
    exact ⟨hs.jumpStops rfl always, hs.jumpStops rfl (live s.console.stop1), hs.jumpStops rfl (live s.console.stop2),
      hs.jumpStops rfl (live s.console.stop3), List.forall_mem_nil _⟩
  case returnStops =>
    simp only [List.forall_mem_cons]
    exact ⟨hs.returnJumpStops rfl always, hs.returnJumpStops rfl (live s.console.stop1),
      hs.returnJumpStops rfl (live s.console.stop2), hs.returnJumpStops rfl (live s.console.stop3),
      List.forall_mem_nil _⟩
  case other =>
    rw [hs.step i hd, hu]
    exact ht.finish_refused .upper (exec_keepsReturn hi t u hu) hended
  case failing =>
    simp only [List.forall_mem_cons]
    exact ⟨hs.passes rfl (jumpCondition_iff j s.a), hs.passes rfl (jumpCondition_iff j s.q), hs.passes rfl .rfl,
      hs.passes rfl .rfl, hs.passes rfl .rfl, List.forall_mem_nil _⟩

end Sys2Proof.Machine
end
